-- ==== Sys2Proof/Word.lean ====
section
/-! DEFINITION. The word types of the UPDC block: registers, bus data and command words are 32 bits (spec/20_memory.md R33, R54). -/

namespace Sys2Proof

/-- A bus word, a register, a command word: 32 bits, bit 0 the least significant (R11, R54). -/
abbrev Word := BitVec 32

/-- One byte, as a byte-addressed bridge would present it (R54). -/
abbrev Byte := BitVec 8

end Sys2Proof
end

