-- ==== Sys2Proof/Syntax.lean ====
section
/-! DEFINITION. The command words of the block, one constructor per row of spec/opcode_table.json. -/

namespace Sys2Proof

/-- A command word written to CMD (30_encoding.md R56, R57). -/
inductive Instr where
  /-- NOP, OP = 0x0 (R108) -/
  | nop
  /-- MEASURE, OP = 0x1 (R63) -/
  | measure
  /-- PLAY, OP = 0x2: NOTE [7:4], OCT [9:8], DUR [31:16] in milliseconds (R59, R81) -/
  | play (note : BitVec 4) (oct : BitVec 2) (durMs : BitVec 16)
  /-- REARM, OP = 0x3 (R100) -/
  | rearm
  /-- A reserved word with OP in 0x4 to 0x7: bits [1:0] of OP, and the other bits [31:4] (R109) -/
  | reserved4to7 (opLow : BitVec 2) (other : BitVec 28)
  /-- A reserved word with OP in 0x8 to 0xF: bits [2:0] of OP, and the other bits [31:4] (R109) -/
  | reserved8toF (opLow : BitVec 3) (other : BitVec 28)
  deriving DecidableEq, Repr

end Sys2Proof
end

