-- ==== Sys2Proof/WellFormed.lean ====
section
/-! DEFINITION. Which terms of Instr stand for words of the opcode table: the operand checks of
spec/30_encoding.md R58 that the types do not make. -/

namespace Sys2Proof

/-- The note code is a scale note or SILENCE: 0 to 8 (R13, R58). -/
def noteCodeOk (note : BitVec 4) : Bool := decide (note.toNat ≤ 8)

/-- The octave code is INACTIVE, 1 or 2: not the reserved code 3 (R13, R58). -/
def octaveCodeOk (oct : BitVec 2) : Bool := decide (oct.toNat ≠ 3)

/-- The instruction is one of the opcode table's. The reserved rows admit every value of their open bits. -/
def Instr.wellFormed : Instr → Bool
  | .nop => true
  | .measure => true
  | .play note oct _ => noteCodeOk note && octaveCodeOk oct
  | .rearm => true
  | .reserved4to7 _ _ => true
  | .reserved8toF _ _ => true

end Sys2Proof
end

