-- ==== Sys2Proof/Decode.lean ====
section
/-! DEFINITION. Decoding of CMD words (spec/30_encoding.md R56 to R59), total and rejecting by name, and the
encoder written from the same table. -/

namespace Sys2Proof

/-- Why a CMD word whose OP names a command is no word of that command (R58). The machine answers each of these
with ERR_CMD (R109); safe. -/
inductive DecodeError where
  /-- a reserved field of NOP, MEASURE, REARM (bits [31:4]) or PLAY (bits [15:10]) is not 0 -/
  | reservedFieldNotZero (op : BitVec 4)
  /-- PLAY with a note code 9 to 15 -/
  | reservedNote (note : BitVec 4)
  /-- PLAY with the octave code 3 -/
  | reservedOctave
  /-- fewer than the four bytes of a command word (byte-addressed bridge only; log entry 16) -/
  | truncated
  deriving DecidableEq, Repr

/-- OP = v[3:0] (R57). -/
def opField (v : Word) : BitVec 4 := v.extractLsb' 0 4
/-- v[31:4], the reserved field of NOP, MEASURE and REARM (R58). -/
def upperField (v : Word) : BitVec 28 := v.extractLsb' 4 28
/-- note = v[7:4] (R59). -/
def noteField (v : Word) : BitVec 4 := v.extractLsb' 4 4
/-- oct = v[9:8] (R59). -/
def octField (v : Word) : BitVec 2 := v.extractLsb' 8 2
/-- v[15:10], the reserved field of PLAY (R58). -/
def playReservedField (v : Word) : BitVec 6 := v.extractLsb' 10 6
/-- dur_ms = v[31:16] (R59). -/
def durField (v : Word) : BitVec 16 := v.extractLsb' 16 16

/-- A command without operands: its word has v[31:4] = 0 (R58). -/
def decodeBare (v : Word) (i : Instr) : Except DecodeError Instr :=
  if upperField v = 0#28 then .ok i else .error (.reservedFieldNotZero (opField v))

/-- PLAY: the legality checks of R58, then the operands of R59. -/
def decodePlay (v : Word) : Except DecodeError Instr :=
  if playReservedField v ≠ 0#6 then .error (.reservedFieldNotZero (opField v))
  else if noteCodeOk (noteField v) = false then .error (.reservedNote (noteField v))
  else if octaveCodeOk (octField v) = false then .error .reservedOctave
  else .ok (.play (noteField v) (octField v) (durField v))

/-- OP 0x4 to 0xF: the reserved rows of the opcode table (R57, R60). -/
def decodeReserved (v : Word) : Instr :=
  if (opField v).toNat < 8 then .reserved4to7 (v.extractLsb' 0 2) (upperField v)
  else .reserved8toF (v.extractLsb' 0 3) (upperField v)

/-- The instruction of a CMD word (R57), with the check of R58 before any effect. -/
def decode (v : Word) : Except DecodeError Instr :=
  if opField v = 0#4 then decodeBare v .nop
  else if opField v = 1#4 then decodeBare v .measure
  else if opField v = 2#4 then decodePlay v
  else if opField v = 3#4 then decodeBare v .rearm
  else .ok (decodeReserved v)

/-- The word of an instruction, from the field layout of 30_encoding.md section 1. For PLAY it is
(d << 16) | (o << 8) | (n << 4) | 0x2. -/
def encode : Instr → Word
  | .nop => 0x00000000#32
  | .measure => 0x00000001#32
  | .play note oct durMs => durMs.setWidth 32 <<< 16 ||| oct.setWidth 32 <<< 8 ||| note.setWidth 32 <<< 4 ||| 0x2#32
  | .rearm => 0x00000003#32
  | .reserved4to7 opLow other => other.setWidth 32 <<< 4 ||| 0x4#32 ||| opLow.setWidth 32
  | .reserved8toF opLow other => other.setWidth 32 <<< 4 ||| 0x8#32 ||| opLow.setWidth 32

/-- The word a byte-addressed bridge gathers from four bytes, the lowest address first: little-endian (R54). -/
def wordOfBytes (b0 b1 b2 b3 : Byte) : Word := (b3 ++ b2 ++ b1 ++ b0).setWidth 32

/-- Byte k of a word, k = 0 at the lowest address (R54). -/
def byteOfWord (v : Word) (k : Nat) : Byte := v.extractLsb' (8 * k) 8

/-- The four bytes of a word, the lowest address first (R54). -/
def bytesOfWord (v : Word) : List Byte :=
  [byteOfWord v 0, byteOfWord v 1, byteOfWord v 2, byteOfWord v 3]

/-- Decoding on any bytes: the first four are one command word (R56: one fixed length of 32 bits). -/
def decodeBytes : List Byte → Except DecodeError (Instr × List Byte)
  | b0 :: b1 :: b2 :: b3 :: rest =>
    match decode (wordOfBytes b0 b1 b2 b3) with
    | .ok i => .ok (i, rest)
    | .error e => .error e
  | _ => .error .truncated

/-- The 32-bit word whose low nbits bits are those of w and whose other bits are 0. -/
def tableWord (nbits w : Nat) : Word := BitVec.ofNat 32 (w % 2 ^ nbits)

/-- What the decoder reads from the word whose bits are w (numbered as spec/opcode_table.json numbers them),
laid out in the bridge's byte order; none where it refuses. -/
def decodeTableWord (nbits w : Nat) : Option Instr :=
  match decodeBytes (bytesOfWord (tableWord nbits w)) with
  | .ok (i, []) => some i
  | _ => none

end Sys2Proof
end

