-- ==== Sys2Proof/Machine/Inputs.lean ====
section
/-! DEFINITION. The input ports of the block, as one cycle samples them (spec/10_state.md R16). -/

namespace Sys2Proof

/-- The inputs sampled in one cycle, `in` of 45_control.md R111. `adcData` is the carrier of the port
`adc_data[ADC_W-1:0]`: the machine reads its low ADC_W bits (log entry 8). -/
structure CycleInput where
  rst : Bool
  echo : Bool
  btn1 : Bool
  btn2 : Bool
  adcDone : Bool
  adcData : BitVec 16
  busEn : Bool
  busWe : Bool
  busAddr : BitVec 8
  busWdata : Word
  deriving DecidableEq, Repr, Inhabited

/-- A cycle in which every pin is 0: no reset, no event, no bus access. -/
def CycleInput.quiet : CycleInput where
  rst := false
  echo := false
  btn1 := false
  btn2 := false
  adcDone := false
  adcData := 0#16
  busEn := false
  busWe := false
  busAddr := 0#8
  busWdata := 0#32

/-- The cycle with the same other pins and no bus access (R35: `bus_en` = 0). -/
def CycleInput.noAccess (i : CycleInput) : CycleInput :=
  { i with busEn := false, busWe := false, busAddr := 0#8, busWdata := 0#32 }

/-- The cycle with the same other pins and the host access MemWrite(a, 4, v) (R12, R37). -/
def CycleInput.withWrite (i : CycleInput) (a : BitVec 8) (v : Word) : CycleInput :=
  { i with busEn := true, busWe := true, busAddr := a, busWdata := v }

/-- The cycle with the same other pins and the host access MemRead(a, 4) (R12, R36). -/
def CycleInput.withRead (i : CycleInput) (a : BitVec 8) : CycleInput :=
  { i with busEn := true, busWe := false, busAddr := a, busWdata := 0#32 }

end Sys2Proof
end

