-- ==== Sys2Proof/Config.lean ====
section
/-! DEFINITION. What a build of the block fixes (spec/00_scope.md R7) and the free values, which nothing in
Lean can evaluate. -/

namespace Sys2Proof

/-- The build parameters of R7 that the source leaves open (92_eei_decisions.md, the OPEN rows). A model takes
them as arguments: they stand in State.cfg and no rule writes them (log entry 2). The normative constants
(SLOPE_DEN, BAND_W_Q16, N_NOTES, TABLE_SIZE, VOL_T1, VOL_T2) and the derived ones (SETTLE_CYC, PULSE_CYC,
BAND_MAX_Q16) are definitions of Machine/Parameters.lean. -/
structure Params where
  /-- F_CLK_HZ, the frequency of `clk` -/
  fClkHz : Nat
  /-- TICK_SCALE_Q16, microseconds per cycle, unsigned Q16.16 -/
  tickScale : BitVec 32
  /-- TICK_OFFSET_Q16, additive duration offset in microseconds, signed Q16.16 -/
  tickOffset : BitVec 32
  /-- SOS_Q16, speed of sound in cm per microsecond, unsigned Q0.16 -/
  sos : BitVec 16
  /-- BAND_MIN_Q16, lower edge of the first band, Q16.16 cm. DESIGN CHOICE: not held to D18's (9.9, 11] cm (log entry 14) -/
  bandMin : BitVec 32
  /-- LUT[0..99], signed 12-bit amplitudes (R30, R93). DESIGN CHOICE: not held to D24's |LUT[i]| < 2^(DAC_W - 1) (log entry
13) -/
  lut : Vector (BitVec 12) 100
  /-- CYCLE[0..7], sample period in cycles at octave 1 (R30, R94; 90_conflicts.md C3) -/
  cycleCount : Vector (BitVec 16) 8
  /-- DELAY_CORR, per-sample delay correction in cycles -/
  delayCorr : BitVec 16
  /-- DAC_W, the DAC sample width -/
  dacW : Nat
  /-- DAC_CENTER, the DAC mid-scale offset -/
  dacCenter : BitVec 16
  /-- ADC_W, the ADC result width -/
  adcW : Nat
  /-- IDLE_TICKS, the idle watchdog interval in cycles -/
  idleTicks : BitVec 32
  /-- MEL_OCT, the octave forced during the melody -/
  melOct : BitVec 2
  /-- MEL_DUR_MS, the duration of each melody note in ms -/
  melDurMs : BitVec 16
  deriving DecidableEq, Repr

/-- FREE VALUE: the inputs of cycle n where the state's script lists none (R113: the inputs are what a model
leaves free; log entry 1). -/
opaque Config.freeInput : Nat → CycleInput

/-- FREE VALUE: what stands on `bus_rdata` in cycle n when the access of that cycle is a write (R35, R36 state a
value for a read and for no access only; log entry 5). -/
opaque Config.freeRdata : Nat → Word

/-- FREE VALUE: Sample(i, div) outside the domain R92 states it for (i above 99, or the divisor code MUTE); no
reachable state asks for it (log entry 6). -/
opaque Config.freeSample : BitVec 7 → BitVec 2 → BitVec 16

end Sys2Proof
end

