-- ==== Sys2Proof/Machine/Parameters.lean ====
section
/-! DEFINITION. The normative and derived constants of spec/00_scope.md R7 and R9, the parameter constraints of
R8, and the reference values of R7, R93 and R94. -/

namespace Sys2Proof

/-- SLOPE_DEN, normative 10 (R7, R75). -/
def slopeDen : Nat := 10
/-- BAND_W_Q16, normative 5 cm (R7). -/
def bandW : Nat := 327680
/-- N_NOTES, normative 8 (R7). -/
def nNotes : Nat := 8
/-- TABLE_SIZE, normative 100 (R7). -/
def tableSize : Nat := 100
/-- VOL_T1, normative 500 (R7, R97). -/
def volT1 : Nat := 500
/-- VOL_T2, normative 3500 (R7, R97). -/
def volT2 : Nat := 3500

/-- The least whole number at least a / b, for b > 0. -/
def ceilDiv (a b : Nat) : Nat := (a + b - 1) / b

/-- SETTLE_CYC = ceil(2 us * F_CLK_HZ) (R9). -/
def Params.settleCyc (p : Params) : Nat := ceilDiv (2 * p.fClkHz) 1000000
/-- PULSE_CYC = ceil(10 us * F_CLK_HZ) (R9). -/
def Params.pulseCyc (p : Params) : Nat := ceilDiv (10 * p.fClkHz) 1000000
/-- BAND_MAX_Q16 = BAND_MIN_Q16 + N_NOTES * BAND_W_Q16 (R9). -/
def Params.bandMax (p : Params) : Nat := p.bandMin.toNat + nNotes * bandW

/-- The constraints a parameter set must meet: those of R8 (SETTLE_CYC and PULSE_CYC, BAND_W_Q16 and
VOL_T1 <= VOL_T2 included by their definitions), and the widths R7, R48 and R52 give (PULSE_CYC in 16 bits, which
bounds SETTLE_CYC too; ADC_W and DAC_W at most 16). DEDUCED for the widths; safe (log entry 3). Two bounds that only
92_eei_decisions.md gives are not asked for. DESIGN CHOICE, log entry 13: D24's |LUT[i]| < 2^(DAC_W - 1); every 12-bit entry is
admitted at every DAC_W. DESIGN CHOICE, log entry 14: D18's (9.9, 11] cm for BAND_MIN_Q16; 0 is admitted, and with it
note_for(0) = high-c. -/
abbrev Params.Valid (p : Params) : Prop :=
  1 ≤ p.fClkHz ∧ p.pulseCyc < 2 ^ 16 ∧
  (∀ n : Fin 8, 1 ≤ p.cycleCount[n].toNat) ∧
  1 ≤ p.idleTicks.toNat ∧
  (p.melOct = 1#2 ∨ p.melOct = 2#2) ∧
  p.adcW ≤ 16 ∧ volT2 < 2 ^ p.adcW ∧
  p.dacW ≤ 16 ∧ p.dacCenter.toNat < 2 ^ p.dacW ∧
  p.bandMax ≤ 2 ^ 32 - 1

/-- The reference waveform table, rows of ten (R93). -/
def lutReferenceRows : List Int :=
  [0, 129, 257, 384, 509, 633, 754, 872, 986, 1097] ++
  [1203, 1305, 1401, 1492, 1577, 1656, 1728, 1794, 1852, 1903] ++
  [1947, 1983, 2011, 2031, 2043, 2047, 2043, 2031, 2011, 1983] ++
  [1947, 1903, 1852, 1794, 1728, 1656, 1577, 1492, 1401, 1305] ++
  [1203, 1097, 986, 872, 754, 633, 509, 384, 257, 129] ++
  [0, -129, -257, -384, -509, -633, -754, -872, -986, -1097] ++
  [-1203, -1305, -1401, -1492, -1577, -1656, -1728, -1794, -1852, -1903] ++
  [-1947, -1983, -2011, -2031, -2043, -2047, -2043, -2031, -2011, -1983] ++
  [-1947, -1903, -1852, -1794, -1728, -1656, -1577, -1492, -1401, -1305] ++
  [-1203, -1097, -986, -872, -754, -633, -509, -384, -257, -129]

/-- LUT at its reference values (R93). -/
def lutReference : Vector (BitVec 12) 100 :=
  ⟨(lutReferenceRows.map (BitVec.ofInt 12)).toArray, rfl⟩

/-- CYCLE at its reference values, C to high-c (R94). -/
def cycleReference : Vector (BitVec 16) 8 :=
  #v[612, 545, 485, 458, 408, 364, 324, 306]

/-- The reference parameter set of R7: the spec's own choice, used by its test vectors. DESIGN CHOICE for
State.reset (log entry 2); unsafe for a statement that names it, so statements quantify over parameter sets. -/
def Params.reference : Params where
  fClkHz := 16000000
  tickScale := 4096
  tickOffset := 0
  sos := 2248
  bandMin := 655360
  lut := lutReference
  cycleCount := cycleReference
  delayCorr := 0
  dacW := 12
  dacCenter := 2048
  adcW := 12
  idleTicks := 480000000
  melOct := 1
  melDurMs := 500

end Sys2Proof
end

