-- ==== Sys2Proof/Machine/State.lean ====
section
/-! DEFINITION. The state of the block as plain data (spec/10_state.md R17 to R29), its reset (R135), and the reasons
a step can stop. -/

namespace Sys2Proof.Machine

/-- A 4-bit note code (R13): C = 0, D = 1, E = 2, F = 3, G = 4, A = 5, B = 6, high-c = 7, SILENCE = 8. -/
abbrev NoteCode := BitVec 4
/-- The SILENCE note code (R13). -/
abbrev silence : NoteCode := 8#4
/-- A 2-bit octave code (R13): INACTIVE = 0, 1, 2; 3 is reserved. -/
abbrev OctCode := BitVec 2
/-- The INACTIVE octave code (R13). -/
abbrev inactive : OctCode := 0#2

/-- VolumeLevel (R13): "louder = lower divisor" (90_conflicts.md C1). Code 3 is reserved and never produced, so
it has no constructor (93_implementation_defined.md item 5; log entry 11). -/
inductive VolLevel where
  /-- MUTE, code 0 -/
  | mute
  /-- LOUD, code 1, divisor 1 -/
  | loud
  /-- SOFT, code 2, divisor 2 -/
  | soft
  deriving DecidableEq, Repr

/-- The Ranger's FSM states, RST of R22, encoded 0 to 6 in this order. -/
inductive RangerState where
  | idle | trigLow | trigHigh | waitStale | waitRise | count | convert
  deriving DecidableEq, Repr

/-- The Ranger (R20, R21, R22). -/
structure Ranger where
  /-- RST, the FSM state -/
  st : RangerState
  /-- RTIM, the trigger phase counter -/
  rtim : BitVec 16
  /-- RCNT, the pulse-width accumulator -/
  rcnt : BitVec 32
  /-- TMO_EN, the running measurement has a timeout -/
  tmoEn : Bool
  /-- TMO_LEFT, cycles left before the timeout -/
  tmoLeft : BitVec 32
  /-- DIST, the last DistanceSample, Q16.16 cm -/
  dist : BitVec 32
  /-- PWCNT, the echo pulse width of the last measurement -/
  pwcnt : BitVec 32
  deriving DecidableEq, Repr

/-- The VolumeSampler (R24). -/
structure VolSampler where
  /-- ADC_PEND, the source's completion flag -/
  pend : Bool
  /-- ADC_DATA, the latched conversion result -/
  data : BitVec 16
  /-- ADC_RAW, the raw value last consumed -/
  raw : BitVec 16
  /-- VLEVEL, the VolumeLevel -/
  vlevel : VolLevel
  deriving DecidableEq, Repr

/-- A voice of the ToneSynthesizer (R25). -/
structure Voice where
  /-- ACT, the voice plays -/
  act : Bool
  /-- NOTE -/
  note : NoteCode
  /-- OCT -/
  oct : OctCode
  /-- DIV, the volume divisor latched at the load -/
  div : VolLevel
  /-- REPS, waveform cycles still to play -/
  reps : BitVec 32
  /-- IDX, the table index -/
  idx : BitVec 7
  /-- WAIT, cycles left in the current slot -/
  wait : BitVec 16
  /-- PER, the slot length -/
  per : BitVec 16
  deriving DecidableEq, Repr

/-- The audio output (R26). -/
structure AudioOut where
  /-- DAC_OUT -/
  out : BitVec 16
  /-- DAC_WE -/
  we : Bool
  deriving DecidableEq, Repr

/-- SEQ_ST (R27): ARMED = 0, FIRING = 1. -/
inductive SeqState where
  | armed | firing
  deriving DecidableEq, Repr

/-- The IdleSequencer (R27). -/
structure Sequencer where
  /-- SEQ_ST -/
  st : SeqState
  /-- IDLE_CNT -/
  idleCnt : BitVec 32
  /-- MEL_IDX, 0 to 8 -/
  melIdx : BitVec 4
  /-- SNAP_NOTE -/
  snapNote : NoteCode
  /-- SNAP_OCT -/
  snapOct : OctCode
  deriving DecidableEq, Repr

/-- PLAYST, the source's PlaybackState (R28). -/
structure PlayState where
  /-- CUR_NOTE -/
  note : NoteCode
  /-- CUR_OCT -/
  oct : OctCode
  deriving DecidableEq, Repr

/-- The octave select (R29). -/
structure OctSelect where
  /-- OCT_SEL -/
  sel : OctCode
  /-- BTN1_Q -/
  btn1Q : Bool
  /-- BTN2_Q -/
  btn2Q : Bool
  deriving DecidableEq, Repr

/-- The state of the machine: every field R17 to R29 name, and three fields of the model's own. -/
structure State where
  /-- MODEL: the build parameters (R7, R30); no rule writes them (log entry 2) -/
  cfg : Params
  /-- MODEL: the inputs of the coming cycles, the coming cycle first; free where none is listed (log entry 1) -/
  script : List CycleInput
  /-- MODEL: the cycles so far, the argument of the free values (log entry 1) -/
  cycle : Nat
  /-- the nine sticky STATUS bits (R17), bit k - 4 for STATUS bit k -/
  sticky : BitVec 9
  /-- IRQ_EN (R18), bit k - 4 for STATUS bit k -/
  irqEn : BitVec 9
  /-- TMO (R19) -/
  tmo : BitVec 32
  /-- the Ranger -/
  rng : Ranger
  /-- the VolumeSampler -/
  adc : VolSampler
  /-- FV, the foreground voice -/
  fv : Voice
  /-- MV, the melody voice -/
  mv : Voice
  /-- the audio output -/
  dac : AudioOut
  /-- the IdleSequencer -/
  seq : Sequencer
  /-- PLAYST -/
  play : PlayState
  /-- the octave select -/
  oct : OctSelect
  deriving DecidableEq, Repr

/-- No condition of the block is fatal (R123): a step never ends in a fault, so there is no reason for one
(log entry 10). -/
inductive Fault where
  deriving DecidableEq, Repr

/-- Why a step has no meaning. -/
inductive Refusal where
  /-- raised by an arm of exec whose instruction has no meaning in this model; none is left; safe -/
  | notModelled (mnemonic : String)
  /-- raised by the step when the build parameters break the constraints of R8 ("A parameter set outside these
  constraints is refused, not given a meaning"); safe (log entry 3) -/
  | parametersOutOfRange
  deriving DecidableEq, Repr

/-- A voice after reset (R25, R135). -/
def Voice.reset : Voice where
  act := false
  note := silence
  oct := 0#2
  div := .mute
  reps := 0#32
  idx := 0#7
  wait := 0#16
  per := 0#16

/-- The reset state of R135 for a build with parameters p. `script` and `cycle` are the model's own (log entry 1). -/
def State.resetOf (p : Params) : State where
  cfg := p
  script := []
  cycle := 0
  sticky := 0#9
  irqEn := 0#9
  tmo := 0#32
  rng := { st := .idle, rtim := 0#16, rcnt := 0#32, tmoEn := false, tmoLeft := 0#32, dist := 0#32, pwcnt := 0#32 }
  adc := { pend := false, data := 0#16, raw := 0#16, vlevel := .mute }
  fv := Voice.reset
  mv := Voice.reset
  dac := { out := p.dacCenter, we := false }
  seq := { st := .armed, idleCnt := p.idleTicks, melIdx := 0#4, snapNote := silence, snapOct := inactive }
  play := { note := silence, oct := inactive }
  oct := { sel := inactive, btn1Q := false, btn2Q := false }

/-- The machine right after reset (R135), at the reference parameters of R7. DESIGN CHOICE for the parameter
set (log entry 2); the statements are about `State.resetOf p` for every p. -/
def State.reset : State := State.resetOf Params.reference

end Sys2Proof.Machine
end

