-- ==== Sys2Proof/Machine/Flags.lean ====
section
/-! DEFINITION. The sticky STATUS bits, the live busy bits and the interrupt line (spec/10_state.md R17, R31, R32;
spec/20_memory.md R40 to R43; spec/60_exceptions.md R121, R126, R127). -/

namespace Sys2Proof.Machine

/-- The conditions with a sticky STATUS bit (R17). The error conditions are rngTmo, errCmd, errBusy, errLock. -/
inductive Cond where
  | rngDone | rngTmo | synDone | seqStart | seqDone | volUpd | errCmd | errBusy | errLock
  deriving DecidableEq, Repr

/-- The STATUS bit position of a condition, which is the cause code of an error (60_exceptions.md section 1, R126). -/
def Cond.pos : Cond → Nat
  | .rngDone => 4
  | .rngTmo => 5
  | .synDone => 6
  | .seqStart => 7
  | .seqDone => 8
  | .volUpd => 9
  | .errCmd => 10
  | .errBusy => 11
  | .errLock => 12

/-- The condition's bit among the nine sticky bits. -/
def Cond.mask (c : Cond) : BitVec 9 := 1#9 <<< (c.pos - 4)

/-- The sticky bit of a condition. -/
def State.flag (s : State) (c : Cond) : Bool := s.sticky.getLsbD (c.pos - 4)

/-- RNG_BUSY (R31). -/
def State.rngBusy (s : State) : Bool := decide (s.rng.st ≠ .idle)
/-- SYN_BUSY (R31). -/
def State.synBusy (s : State) : Bool := s.fv.act
/-- SEQ_FIRING (R31). -/
def State.seqFiring (s : State) : Bool := decide (s.seq.st = .firing)

/-- STATUS as a read gives it, bit 12 first (R40). -/
def State.statusWord (s : State) : Word :=
  (s.sticky ++ 0#1 ++ BitVec.ofBool s.seqFiring ++ BitVec.ofBool s.synBusy ++ BitVec.ofBool s.rngBusy).setWidth 32

/-- IRQ_EN as a read gives it (R42). -/
def State.irqEnWord (s : State) : Word := s.irqEn.setWidth 32 <<< 4

/-- Bits [12:4] of a written word: the sticky bits it names (R41, R43). -/
def stickyField (v : Word) : BitVec 9 := v.extractLsb' 4 9

/-- The level interrupt line to the host: some enabled sticky bit is 1 (R126). -/
def State.irq (s : State) : Bool := decide (s.sticky &&& s.irqEn ≠ 0#9)

end Sys2Proof.Machine
end

