-- ==== Sys2Proof/Machine/Operands.lean ====
section
/-! DEFINITION. The values the rules compute from operands and parameters: codes, slot length, repeat count, sample,
volume level, octave decode, the narrowing helpers (spec/00_scope.md R11, R13; 42_tone_synth.md R83 to R87, R92;
43_volume_sampler.md R97; 45_control.md R110). -/

namespace Sys2Proof.Machine

/-- sat32(v) = min(v, 2^32 - 1) (R11). -/
def sat32 (v : Nat) : BitVec 32 := BitVec.ofNat 32 (min v (2 ^ 32 - 1))

/-- clamp(v, lo, hi) = min(max(v, lo), hi) (R11). -/
def clamp (v lo hi : Int) : Int := min (max v lo) hi

/-- The 2-bit code of a volume level, which is its divisor (R13). -/
def VolLevel.code : VolLevel → BitVec 2
  | .mute => 0#2
  | .loud => 1#2
  | .soft => 2#2

/-- The 3-bit encoding of the Ranger's state (R22). -/
def RangerState.code : RangerState → BitVec 3
  | .idle => 0#3
  | .trigLow => 1#3
  | .trigHigh => 2#3
  | .waitStale => 3#3
  | .waitRise => 4#3
  | .count => 5#3
  | .convert => 6#3

/-- The legality R58 asks of PLAY's operands. -/
def playLegal (note : NoteCode) (oct : OctCode) : Bool :=
  decide (note.toNat ≤ 8) && decide (oct.toNat ≠ 3)

/-- The scale note a code names, none for SILENCE (R13). -/
def scaleNote (note : NoteCode) : Option (Fin 8) :=
  if h : note.toNat < 8 then some ⟨note.toNat, h⟩ else none

/-- Silent(note, oct, div) (R83). -/
def silent (note : NoteCode) (oct : OctCode) (div : VolLevel) : Bool :=
  decide (note = silence) || decide (oct = inactive) || decide (div = .mute)

/-- P(note, oct) = max(1, floor(CYCLE[note] / oct) - DELAY_CORR) (R84). Natural subtraction stops at 0, which the
maximum with 1 covers. -/
def slotLength (p : Params) (n : Fin 8) (oct : OctCode) : BitVec 16 :=
  BitVec.ofNat 16 (max 1 (p.cycleCount[n].toNat / oct.toNat - p.delayCorr.toNat))

/-- Reps(note, oct, dur_ms) = min(floor(dur_ms * oct * F_CLK_HZ / (1000 * TABLE_SIZE * CYCLE[note])), 2^32 - 1) (R85). -/
def repeatCount (p : Params) (n : Fin 8) (oct : OctCode) (durMs : BitVec 16) : BitVec 32 :=
  sat32 (durMs.toNat * oct.toNat * p.fClkHz / (1000 * tableSize * p.cycleCount[n].toNat))

/-- VoiceLoad(V, note, oct, div, R) (R87): the voice it leaves. -/
def voiceLoad (p : Params) (n : Fin 8) (oct : OctCode) (div : VolLevel) (reps : BitVec 32) : Voice where
  act := true
  note := BitVec.ofNat 4 n.val
  oct := oct
  div := div
  reps := reps
  idx := 0#7
  wait := 0#16
  per := slotLength p n oct

/-- The voice that playing a note loads, none where playing it is a no-op: Silent holds or Reps = 0 (R81, R83, R103). -/
def noteVoice (p : Params) (note : NoteCode) (oct : OctCode) (div : VolLevel) (durMs : BitVec 16) : Option Voice :=
  if silent note oct div then none
  else
    match scaleNote note with
    | none => none
    | some n =>
      if repeatCount p n oct durMs = 0#32 then none
      else some (voiceLoad p n oct div (repeatCount p n oct durMs))

/-- Sample(i, div) = clamp(DAC_CENTER + tdiv(LUT[i], div), 0, 2^DAC_W - 1) on the domain of R92, as an integer. -/
def sampleInt (p : Params) (i : Fin 100) (divisor : Nat) : Int :=
  clamp (p.dacCenter.toNat + Int.tdiv p.lut[i].toInt divisor) 0 (2 ^ p.dacW - 1)

/-- The sample of table index i and divisor div (R92). Outside its stated domain (i above 99, or MUTE, neither in any
reachable state) the value is free, in DAC_W bits (log entry 6). -/
def sample (p : Params) (i : BitVec 7) (div : VolLevel) : BitVec 16 :=
  if h : i.toNat < 100 ∧ div ≠ .mute then
    BitVec.ofNat 16 (sampleInt p ⟨i.toNat, h.1⟩ div.code.toNat).toNat
  else BitVec.ofNat 16 ((Config.freeSample i div.code).toNat % 2 ^ p.dacW)

/-- Level(r) (R97; 90_conflicts.md C1; both boundary values are SOFT). -/
def volumeLevel (r : BitVec 16) : VolLevel :=
  if r.toNat < volT1 then .loud
  else if r.toNat ≤ volT2 then .soft
  else .mute

/-- Oct(btn1, btn2) (R110). -/
def octaveDecode (btn1 btn2 : Bool) : OctCode :=
  match btn1, btn2 with
  | true, false => 1#2
  | false, true => 2#2
  | false, false => inactive
  | true, true => inactive

/-- The ADC_W bits of the port `adc_data` (R16; log entry 8). -/
def adcPort (p : Params) (v : BitVec 16) : BitVec 16 := BitVec.ofNat 16 (v.toNat % 2 ^ p.adcW)

end Sys2Proof.Machine
end

