-- ==== Sys2Proof/Machine/Ops.lean ====
section
/-! DEFINITION. The named operations over the state that more than one rule shares: raising a condition (the block's
exception), clearing status bits, recording PlaybackState, the melody's entry and return (the block's trap entry and
return), the inputs of the coming cycle. -/

namespace Sys2Proof.Machine

/-- The outcome type of every meaning. -/
abbrev Result := Host.Outcome State Fault Refusal

/-- `raise E(info)` (R12, R17, R121): the sticky bit of E is set and nothing else is recorded. A command that raises
has no other effect (R117 to R119). -/
def State.raise (s : State) (c : Cond) : State := { s with sticky := s.sticky ||| c.mask }

/-- Raise c where b holds. -/
def State.raiseIf (s : State) (b : Bool) (c : Cond) : State := if b then s.raise c else s

/-- The W1C write of STATUS (R41): the sticky bits whose bit of v is 1 are cleared. The units raise their conditions
after it in the same cycle, so that a set wins. -/
def State.clearStatus (s : State) (v : Word) : State := { s with sticky := s.sticky &&& ~~~ stickyField v }

/-- The write of IRQ_EN (R43). -/
def State.writeIrqEn (s : State) (v : Word) : State := { s with irqEn := stickyField v }

/-- The write of TMO (R44). -/
def State.writeTmo (s : State) (v : Word) : State := { s with tmo := v }

/-- CUR_NOTE <- note; CUR_OCT <- oct (R82). -/
def State.recordPlayback (s : State) (note : NoteCode) (oct : OctCode) : State :=
  { s with play := { note := note, oct := oct } }

/-- The reload of the idle timer (R100, R104). -/
def State.reloadIdle (s : State) : State := { s with seq := { s.seq with idleCnt := s.cfg.idleTicks } }

/-- Melody entry, the block's trap entry (R102, R128): PlaybackState is saved into SNAP_NOTE and SNAP_OCT, CUR_OCT is
forced to MEL_OCT, SEQ_ST becomes FIRING (which freezes FV, R89), SEQ_START is set. It is applied to the state the
command of the same cycle has left, because "the command is ordered before the expiry": a PLAY accepted in the expiry
cycle becomes the snapshot and its note stays CUR_NOTE. -/
def State.melodyEntry (s : State) : State :=
  ({ s with
      seq := { st := .firing, idleCnt := 0#32, melIdx := 0#4, snapNote := s.play.note, snapOct := s.play.oct }
      play := { note := s.play.note, oct := s.cfg.melOct } }).raise .seqStart

/-- Melody exit, the block's return (R104, R130): PlaybackState is restored from the snapshot, SEQ_ST becomes ARMED
with a full interval, MEL_IDX 0, SEQ_DONE is set; the snapshot keeps its value. -/
def State.melodyExit (s : State) : State :=
  ({ s with
      seq := { s.seq with st := .armed, idleCnt := s.cfg.idleTicks, melIdx := 0#4 }
      play := { note := s.seq.snapNote, oct := s.seq.snapOct } }).raise .seqDone

/-- The inputs of the coming cycle: the script's first entry, free where the script lists none (log entry 1). -/
def State.input (s : State) : CycleInput :=
  match s.script with
  | i :: _ => i
  | [] => Config.freeInput s.cycle

/-- The cycle is over: its inputs are used up and the cycle count advances (log entry 1). -/
def State.endCycle (s : State) : State := { s with script := s.script.tail, cycle := s.cycle + 1 }

end Sys2Proof.Machine
end

