-- ==== Sys2Proof/Machine/Control.lean ====
section
/-! DEFINITION. NOP, the reserved command words, and the octave selection input (spec/45_control.md). -/

namespace Sys2Proof.Machine

/-- NOP (R108): no effect. -/
def execNop (s : State) : Result := .next s

/-- The effect of an illegal command word (R109, R117): ERR_CMD and no other. -/
def illegalWord (s : State) : State := s.raise .errCmd

/-- A reserved word with OP 0x4 to 0x7 (R60, R109). Its other bits have no part in the effect. -/
def execReserved4to7 (_opLow : BitVec 2) (_other : BitVec 28) (s : State) : Result := .next (illegalWord s)

/-- A reserved word with OP 0x8 to 0xF (R60, R109). Its other bits have no part in the effect. -/
def execReserved8toF (_opLow : BitVec 3) (_other : BitVec 28) (s : State) : Result := .next (illegalWord s)

/-- The octave decode of a cycle (R110). -/
def octaveCycle (inp : CycleInput) (t : State) : State :=
  { t with oct := { sel := octaveDecode inp.btn1 inp.btn2, btn1Q := inp.btn1, btn2Q := inp.btn2 } }

end Sys2Proof.Machine
end

