-- ==== Sys2Proof/Machine/IdleSequencer.lean ====
section
/-! DEFINITION. The IdleSequencer: the REARM command, the idle countdown and the melody (spec/44_idle_sequencer.md). -/

namespace Sys2Proof.Machine

/-- REARM (R100). -/
def execRearm (s : State) : Result :=
  if s.seq.st = .firing then .next (s.raise .errLock)
  else .next s.reloadIdle

/-- One cycle of the countdown (R101). -/
def State.countIdle (s : State) : State := { s with seq := { s.seq with idleCnt := s.seq.idleCnt - 1#32 } }

/-- The idle timer expires in this cycle: ARMED, no REARM accepted, IDLE_CNT at most 1 (R101). -/
def State.idleExpires (rearmed : Bool) (s : State) : Bool :=
  decide (s.seq.st = .armed) && !rearmed && decide (s.seq.idleCnt.toNat ≤ 1)

/-- CUR_NOTE <- n; MEL_IDX <- n + 1 (R103). -/
def State.melodyNote (s : State) : State :=
  { s with
    play := { s.play with note := s.seq.melIdx }
    seq := { s.seq with melIdx := s.seq.melIdx + 1#4 } }

/-- The voice the melody note of this cycle loads, none for a no-op note (R103). It reads VLEVEL of this cycle. -/
def State.melodyVoice (s : State) : Option Voice :=
  noteVoice s.cfg s.seq.melIdx s.cfg.melOct s.adc.vlevel s.cfg.melDurMs

/-- The next note of the melody (R103). -/
def State.nextNote (s t : State) : State :=
  match s.melodyVoice with
  | none => t.melodyNote
  | some v => { t.melodyNote with mv := v }

/-- The IdleSequencer's part of a cycle: it reads s and writes onto t. `rearmed`: a REARM is accepted in this cycle,
which overrides the countdown and the expiry (R100, R112). While FIRING with MV active it changes nothing (R103). -/
def sequencerCycle (rearmed : Bool) (s t : State) : State :=
  match s.seq.st with
  | .armed =>
    if rearmed then t
    else if s.seq.idleCnt.toNat ≤ 1 then t.melodyEntry
    else t.countIdle
  | .firing =>
    if s.mv.act = true then t
    else if s.seq.melIdx.toNat < 8 then s.nextNote t
    else if s.seq.melIdx.toNat = 8 then t.melodyExit
    else t

end Sys2Proof.Machine
end

