-- ==== Sys2Proof/Machine/Ranger.lean ====
section
/-! DEFINITION. The Ranger: the MEASURE command, the capture FSM and the fixed-point conversion (spec/40_ranger.md). -/

namespace Sys2Proof.Machine

/-- dur_q16 = max(0, N * TICK_SCALE_Q16 + TICK_OFFSET_Q16), the offset signed (R73). -/
def durationQ16 (p : Params) (n : Nat) : Nat :=
  (max 0 ((n : Int) * p.tickScale.toNat + p.tickOffset.toInt)).toNat

/-- d_q16 = floor(dur_q16 * SOS_Q16 / 2^17) (R74). -/
def distanceQ16 (p : Params) (n : Nat) : Nat := durationQ16 p n * p.sos.toNat / 2 ^ 17

/-- dc_q16 = d_q16 + floor(d_q16 / SLOPE_DEN) (R75). -/
def slopeCorrected (d : Nat) : Nat := d + d / slopeDen

/-- Dist(N) = sat32(dc_q16) (R76). -/
def distOf (p : Params) (n : BitVec 32) : BitVec 32 := sat32 (slopeCorrected (distanceQ16 p n.toNat))

/-- The Ranger right after an accepted MEASURE (R63): the last DIST and PWCNT stay (R142). -/
def Ranger.start (p : Params) (r : Ranger) : Ranger :=
  { r with st := .trigLow, rtim := BitVec.ofNat 16 p.settleCyc, rcnt := 0#32, tmoEn := false, tmoLeft := 0#32 }

/-- MEASURE (R63). -/
def execMeasure (s : State) : Result :=
  if s.rng.st ≠ .idle then .next (s.raise .errBusy)
  else .next { s with rng := s.rng.start s.cfg }

/-- The cycle is one in which R72's timeout rule counts: TMO_EN in a waiting or counting state, except a COUNT cycle
with `echo` = 0 (normal completion wins). -/
def Ranger.timing (echo : Bool) (r : Ranger) : Bool :=
  r.tmoEn &&
    match r.st with
    | .waitStale => true
    | .waitRise => true
    | .count => echo
    | .idle | .trigLow | .trigHigh | .convert => false

/-- The measurement times out in this cycle (R72, R120). -/
def Ranger.timesOut (echo : Bool) (r : Ranger) : Bool := r.timing echo && decide (r.tmoLeft = 1#32)

/-- What a timeout leaves (R72): DIST = 0xFFFFFFFF, PWCNT the ticks counted so far. -/
def Ranger.afterTimeout (r : Ranger) : Ranger :=
  { r with st := .idle, tmoEn := false, dist := 0xFFFFFFFF#32, pwcnt := r.rcnt }

/-- The state rule of r.st (R64 to R71). `tmo` is the TMO register, latched by R67. -/
def Ranger.stateRule (p : Params) (tmo : BitVec 32) (echo : Bool) (r : Ranger) : Ranger :=
  match r.st with
  | .idle => r
  | .trigLow =>
    if r.rtim = 1#16 then { r with st := .trigHigh, rtim := BitVec.ofNat 16 p.pulseCyc }
    else { r with rtim := r.rtim - 1#16 }
  | .trigHigh =>
    if r.rtim = 1#16 then { r with st := .waitStale, rtim := 0#16, tmoEn := decide (tmo ≠ 0#32), tmoLeft := tmo }
    else { r with rtim := r.rtim - 1#16 }
  | .waitStale => if echo then r else { r with st := .waitRise }
  | .waitRise => if echo then { r with st := .count, rcnt := 1#32 } else r
  | .count => if echo then { r with rcnt := sat32 (r.rcnt.toNat + 1) } else { r with st := .convert }
  | .convert => { r with st := .idle, tmoEn := false, dist := distOf p r.rcnt, pwcnt := r.rcnt }

/-- R72's else branch: TMO_LEFT <- TMO_LEFT - 1, beside the state rule. -/
def Ranger.countDown (r : Ranger) : Ranger := { r with tmoLeft := r.tmoLeft - 1#32 }

/-- The Ranger's own update of one cycle. -/
def Ranger.tick (p : Params) (tmo : BitVec 32) (echo : Bool) (r : Ranger) : Ranger :=
  if r.timesOut echo then r.afterTimeout
  else if r.timing echo then (r.countDown).stateRule p tmo echo
  else r.stateRule p tmo echo

/-- A measurement ends in this cycle: by conversion (R71) or by timeout (R72). -/
def Ranger.finishes (echo : Bool) (r : Ranger) : Bool := decide (r.st = .convert) || r.timesOut echo

/-- The Ranger's part of a cycle: it reads s and writes onto t, which holds the writes of the cycle's bus access. In
IDLE the Ranger writes nothing of its own (R64), so a MEASURE accepted in this cycle stands (R112). -/
def rangerCycle (inp : CycleInput) (s t : State) : State :=
  let t := if s.rng.st = .idle then t else { t with rng := s.rng.tick s.cfg s.tmo inp.echo }
  (t.raiseIf (s.rng.finishes inp.echo) .rngDone).raiseIf (s.rng.timesOut inp.echo) .rngTmo

end Sys2Proof.Machine
end

