-- ==== Sys2Proof/Machine/ToneSynth.lean ====
section
/-! DEFINITION. The ToneSynthesizer: the PLAY command and the voice engine (spec/42_tone_synth.md). -/

namespace Sys2Proof.Machine

/-- PLAY (R81, R82, R83), with the legality check of R58 first and the errors in the order of R122. -/
def execPlay (note : BitVec 4) (oct : BitVec 2) (durMs : BitVec 16) (s : State) : Result :=
  if playLegal note oct = false then .next (s.raise .errCmd)
  else if s.seq.st = .firing then .next (s.raise .errLock)
  else if s.fv.act = true then .next (s.raise .errBusy)
  else
    match noteVoice s.cfg note oct s.adc.vlevel durMs with
    | none => .next ((s.recordPlayback note oct).raise .synDone)
    | some v => .next { s.recordPlayback note oct with fv := v }

/-- The voice after one step (R88). -/
def Voice.step (v : Voice) : Voice :=
  if v.wait = 0#16 then
    if v.reps = 0#32 then { v with act := false }
    else if v.idx.toNat = tableSize - 1 then { v with idx := 0#7, reps := v.reps - 1#32, wait := v.per - 1#16 }
    else { v with idx := v.idx + 1#7, wait := v.per - 1#16 }
  else { v with wait := v.wait - 1#16 }

/-- The step writes a sample: it starts a slot with repeats left (R88). -/
def Voice.writes (v : Voice) : Bool := decide (v.wait = 0#16) && decide (v.reps ≠ 0#32)

/-- The step ends the voice: all repeat iterations are done (R88, R91). -/
def Voice.finishes (v : Voice) : Bool := decide (v.wait = 0#16) && decide (v.reps = 0#32)

/-- FV steps in this cycle (R89). -/
def State.fvSteps (s : State) : Bool := s.fv.act && decide (s.seq.st = .armed)

/-- MV steps in this cycle (R89). -/
def State.mvSteps (s : State) : Bool := s.mv.act

/-- The audio output after the cycle (R88, R90): the sample a stepping voice writes, else the last sample with
DAC_WE = 0. That both voices write is in no reachable state (R89, R112; log entry 7). -/
def State.nextDac (s : State) : AudioOut :=
  if s.mvSteps && s.mv.writes then { out := sample s.cfg s.mv.idx s.mv.div, we := true }
  else if s.fvSteps && s.fv.writes then { out := sample s.cfg s.fv.idx s.fv.div, we := true }
  else { out := s.dac.out, we := false }

/-- The voices' part of a cycle: it reads s and writes onto t. A voice that does not step keeps what t holds, so a
PLAY that loads FV in this cycle stands (R87: it first steps in the next cycle; R112). -/
def voicesCycle (s t : State) : State :=
  let t := { t with dac := s.nextDac }
  let t := if s.fvSteps then { t with fv := s.fv.step } else t
  let t := if s.mvSteps then { t with mv := s.mv.step } else t
  t.raiseIf (s.fvSteps && s.fv.finishes) .synDone

end Sys2Proof.Machine
end

