-- ==== Sys2Proof/Machine/Dispatch.lean ====
section
/-! DEFINITION. One arm per constructor of Instr: the command rules of spec/30_encoding.md R57. -/

namespace Sys2Proof.Machine
open Sys2Proof

def exec (i : Instr) (s : State) : Host.Outcome State Fault Refusal :=
  match i with
  | .nop => Sys2Proof.Machine.execNop s
  | .measure => Sys2Proof.Machine.execMeasure s
  | .play note oct durMs => Sys2Proof.Machine.execPlay note oct durMs s
  | .rearm => Sys2Proof.Machine.execRearm s
  | .reserved4to7 opLow other => Sys2Proof.Machine.execReserved4to7 opLow other s
  | .reserved8toF opLow other => Sys2Proof.Machine.execReserved8toF opLow other s

end Sys2Proof.Machine
end

