-- ==== Sys2Proof/Machine/NoteMapper.lean ====
section
/-! DEFINITION. The NoteMapper: the combinational distance-to-note quantizer (spec/41_note_mapper.md). -/

namespace Sys2Proof.Machine

/-- The lower edge of band k (R77). -/
def bandLow (p : Params) (k : Nat) : Nat := p.bandMin.toNat + k * bandW

/-- The upper edge of band k, half-open (R77). -/
def bandHigh (p : Params) (k : Nat) : Nat := bandLow p k + bandW

/-- The ascending first-match chain over the bands listed (R77): the nearest band is high-c. -/
def firstBand (p : Params) (q : Nat) : List Nat → NoteCode
  | [] => silence
  | k :: ks =>
    if bandLow p k ≤ q ∧ q < bandHigh p k then BitVec.ofNat 4 (nNotes - 1 - k) else firstBand p q ks

/-- note_for(q), as the pseudocode of R77 has it. DESIGN CHOICE for one corner (log entry 14): in a build with BAND_MIN_Q16 = 0 the
distance 0 lies in the first band, so note_for(0) is high-c, where R77's sentence on q = 0 and R23 have SILENCE. -/
def noteFor (p : Params) (q : BitVec 32) : NoteCode := firstBand p q.toNat (List.range nNotes)

/-- The closed form of R78. -/
def noteForClosed (p : Params) (q : BitVec 32) : NoteCode :=
  if q.toNat < p.bandMin.toNat ∨ p.bandMax ≤ q.toNat then silence
  else BitVec.ofNat 4 (7 - (q.toNat - p.bandMin.toNat) / bandW)

/-- MNOTE, a function of DIST (R23). -/
def State.mnote (s : State) : NoteCode := noteFor s.cfg s.rng.dist

end Sys2Proof.Machine
end

