-- ==== Sys2Proof/Machine/Bus.lean ====
section
/-! DEFINITION. The register bus: slot selection, reads, writes, and the outputs (spec/20_memory.md R33 to R55;
spec/10_state.md R31). -/

namespace Sys2Proof.Machine

/-- The slot addressed, bus_addr[7:2] (R34). -/
def slotOf (a : BitVec 8) : BitVec 6 := a.extractLsb' 2 6

/-- VOL (R48). -/
def State.volWord (s : State) : Word :=
  (BitVec.ofBool s.adc.pend ++ s.adc.vlevel.code ++ s.adc.raw).setWidth 32
/-- PLAYST (R49). -/
def State.playWord (s : State) : Word := (s.play.oct ++ s.play.note).setWidth 32
/-- OCTSEL (R50). -/
def State.octWord (s : State) : Word :=
  (BitVec.ofBool s.oct.btn2Q ++ BitVec.ofBool s.oct.btn1Q ++ s.oct.sel).setWidth 32
/-- SEQST (R51). -/
def State.seqWord (s : State) : Word :=
  (BitVec.ofBool s.mv.act ++ BitVec.ofBool s.seqFiring ++ s.seq.snapOct ++ s.seq.snapNote ++ s.seq.melIdx).setWidth 32
/-- DAC (R52). -/
def State.dacWord (s : State) : Word := (BitVec.ofBool s.dac.we ++ s.dac.out).setWidth 32

/-- RegRead(s, slot) (R36, R39 to R52): the register map of 20_memory.md section 3, unmapped slots 0. -/
def regRead (s : State) (slot : BitVec 6) : Word :=
  match slot.toNat with
  | 0 => 0#32
  | 1 => s.statusWord
  | 2 => s.irqEnWord
  | 3 => s.tmo
  | 4 => s.rng.dist
  | 5 => s.rng.pwcnt
  | 6 => s.mnote.setWidth 32
  | 7 => s.volWord
  | 8 => s.playWord
  | 9 => s.octWord
  | 10 => s.seq.idleCnt
  | 11 => s.seqWord
  | 12 => s.dacWord
  | _ => 0#32

/-- MemRead(a, 4) (R12, R36). -/
def memRead (s : State) (a : BitVec 8) : Word := regRead s (slotOf a)

/-- The write of CMD (R39): the word is decoded and executed; an illegal word raises ERR_CMD (R58, R109). -/
def cmdWrite (s : State) (v : Word) : Result :=
  match decode v with
  | .ok i => exec i s
  | .error _ => .next (illegalWord s)

/-- MemWrite(a, 4, v) (R12, R37): the write rules of CMD, STATUS, IRQ_EN and TMO; every other slot ignores it (R53). -/
def memWrite (s : State) (a : BitVec 8) (v : Word) : Result :=
  match (slotOf a).toNat with
  | 0 => cmdWrite s v
  | 1 => .next (s.clearStatus v)
  | 2 => .next (s.writeIrqEn v)
  | 3 => .next (s.writeTmo v)
  | _ => .next s

/-- The host's access of a cycle (R35): a write's own effects on s; a read or no access changes nothing (R36). -/
def busAccess (inp : CycleInput) (s : State) : Result :=
  if inp.busEn && inp.busWe then memWrite s inp.busAddr inp.busWdata else .next s

/-- The command word the cycle's access writes to CMD, if it writes one (R39). -/
def cmdWord (inp : CycleInput) : Option Word :=
  if inp.busEn && inp.busWe && decide (slotOf inp.busAddr = 0#6) then some inp.busWdata else none

/-- A REARM is accepted in this cycle (R100). -/
def rearmAccepted (inp : CycleInput) (s : State) : Bool :=
  match cmdWord inp with
  | some v =>
    (match decode v with
      | .ok .rearm => decide (s.seq.st = .armed)
      | _ => false)
  | none => false

/-- `bus_rdata` of a cycle (R35, R36, R135): a read gives RegRead of the state at the start of the cycle, 0 with `rst`
= 1; no access gives 0; the value in a write cycle is not stated, a free value (log entry 5). -/
def busRdata (inp : CycleInput) (s : State) : Word :=
  if inp.busEn = false then 0#32
  else if inp.busWe then Config.freeRdata s.cycle
  else if inp.rst then 0#32
  else memRead s inp.busAddr

/-- The output ports (R16). -/
structure Outputs where
  trig : Bool
  dacOut : BitVec 16
  dacWe : Bool
  led1 : Bool
  led2 : Bool
  irq : Bool
  busRdata : Word
  deriving DecidableEq, Repr

/-- The outputs in the cycle that starts in s (R31, R36, R126). -/
def State.outputs (s : State) : Outputs where
  trig := decide (s.rng.st = .trigHigh)
  dacOut := s.dac.out
  dacWe := s.dac.we
  led1 := decide (s.oct.sel = 1#2)
  led2 := decide (s.oct.sel = 2#2)
  irq := s.irq
  busRdata := Sys2Proof.Machine.busRdata s.input s

end Sys2Proof.Machine
end

