-- ==== Sys2Proof/Machine/VolumeSampler.lean ====
section
/-! DEFINITION. The VolumeSampler: the asynchronous ADC event and its handler (spec/43_volume_sampler.md). -/

namespace Sys2Proof.Machine

/-- The sampling event handler of a cycle with ADC_PEND = 1 (R96): ADC_PEND is cleared as its final action. -/
def VolSampler.handle (a : VolSampler) : VolSampler :=
  { a with raw := a.data, vlevel := volumeLevel a.data, pend := false }

/-- Event capture (R95). -/
def VolSampler.capture (data : BitVec 16) (a : VolSampler) : VolSampler := { a with pend := true, data := data }

/-- The sampler after one cycle: the handler reads the pre-state, and capture takes precedence over its clear
(R95, R96). -/
def VolSampler.tick (p : Params) (done : Bool) (port : BitVec 16) (a : VolSampler) : VolSampler :=
  let b := if a.pend then a.handle else a
  if done then b.capture (adcPort p port) else b

/-- The VolumeSampler's part of a cycle; VOL_UPD is set by every handled event (R98). -/
def samplerCycle (inp : CycleInput) (s t : State) : State :=
  ({ t with adc := s.adc.tick s.cfg inp.adcDone inp.adcData }).raiseIf s.adc.pend .volUpd

end Sys2Proof.Machine
end

