-- ==== Sys2Proof/Machine/Cycle.lean ====
section
/-! DEFINITION. The composition of one cycle (spec/45_control.md R111, R112; spec/70_reset_and_hazards.md R135). -/

namespace Sys2Proof.Machine

/-- Every unit's own update of a cycle. Each reads s, the state at the start of the cycle, and writes its own fields
onto t, which holds the writes of the cycle's bus access; the sticky bits they set win over a clear of the same cycle
(R41, R112; log entry 4). -/
def unitsCycle (inp : CycleInput) (s t : State) : State :=
  octaveCycle inp
    (sequencerCycle (rearmAccepted inp s) s (voicesCycle s (samplerCycle inp s (rangerCycle inp s t))))

/-- The reset of a cycle with `rst` = 1 (R135): no other rule applies. The build parameters stay, and so do the pins of
the coming cycles and the cycle count (log entry 19). -/
def resetCycle (s : State) : State :=
  { State.resetOf s.cfg with script := s.script, cycle := s.cycle }

/-- One cycle with the inputs inp (R111): s' = Step(s, in). -/
def cycleWith (inp : CycleInput) (s : State) : Result :=
  if inp.rst then .next (resetCycle s).endCycle
  else
    match busAccess inp s with
    | .next t => .next (unitsCycle inp s t).endCycle
    | .fault r => .fault r
    | .refused r => .refused r

/-- One cycle of the block on the inputs the state gives (R10, R111). A parameter set outside R8 is refused, not given
a meaning (log entry 3). -/
def cycle (s : State) : Result :=
  if s.cfg.Valid then cycleWith s.input s else .refused .parametersOutOfRange

/-- The inputs of a cycle in which the host writes the word v to CMD, the other pins as i has them and no reset. -/
def commandInput (i : CycleInput) (v : Word) : CycleInput :=
  { i.withWrite 0#8 v with rst := false }

/-- The pins of the coming cycle where the script lists it, all 0 where it does not. -/
def State.pins (s : State) : CycleInput :=
  match s.script with
  | i :: _ => i
  | [] => CycleInput.quiet

end Sys2Proof.Machine
end

