-- ==== Sys2Proof/Machine/Step.lean ====
section
/-! DEFINITION. The step of the machine: one clock cycle (spec/00_scope.md R10; spec/45_control.md R111). -/

namespace Sys2Proof.Machine

/-- s' = Step(s, in), with `in` the inputs the state's script gives for the coming cycle, free where it gives none. -/
def step (s : State) : Host.Outcome State Fault Refusal := cycle s

/-- s with the coming cycle one in which the host writes the word whose bits are w to CMD, where the block takes its
commands from (R39): the block fetches no instructions (R15; log entry 9). -/
def State.withFetchWord (s : State) (nbits w : Nat) : State :=
  { s with script := commandInput s.pins (tableWord nbits w) :: s.script.tail }

end Sys2Proof.Machine
end

