-- ==== Sys2Proof/Machine/HostProgram.lean ====
section
/-! DEFINITION. The host's side of the bus: the syntax of host programs (spec/30_encoding.md R61, R62) and the reference
foreground loop (spec/45_control.md R115). The host is no part of the block (00_scope.md R5) and no part of `step`: it
chooses the bus pins of each cycle and sees `bus_rdata` (log entry 18). -/

namespace Sys2Proof.Machine

/-- The note symbols of the assembler, C D E F G A B c SIL (R61). -/
inductive NoteSymbol where
  | C | D | E | F | G | A | B | highC | SIL
  deriving DecidableEq, Repr

/-- The code of a note symbol, 0 to 8 (R13, R61). -/
def NoteSymbol.code : NoteSymbol → NoteCode
  | .C => 0#4
  | .D => 1#4
  | .E => 2#4
  | .F => 3#4
  | .G => 4#4
  | .A => 5#4
  | .B => 6#4
  | .highC => 7#4
  | .SIL => 8#4

/-- The register names of 20_memory.md section 3. -/
inductive RegName where
  | CMD | STATUS | IRQ_EN | TMO | DIST | PWCNT | MNOTE | VOL | PLAYST | OCTSEL | IDLE_CNT | SEQST | DAC
  deriving DecidableEq, Repr

/-- The byte offset of a register (20_memory.md section 3). -/
def RegName.offset : RegName → BitVec 8
  | .CMD => 0x00#8
  | .STATUS => 0x04#8
  | .IRQ_EN => 0x08#8
  | .TMO => 0x0C#8
  | .DIST => 0x10#8
  | .PWCNT => 0x14#8
  | .MNOTE => 0x18#8
  | .VOL => 0x1C#8
  | .PLAYST => 0x20#8
  | .OCTSEL => 0x24#8
  | .IDLE_CNT => 0x28#8
  | .SEQST => 0x2C#8
  | .DAC => 0x30#8

/-- A statement of a host program: the operations of R61, and POLL of R62, which has no expansion of fixed length. -/
inductive HostStmt where
  /-- WR reg, value: MemWrite -/
  | wr (reg : RegName) (value : Word)
  /-- RD reg: MemRead -/
  | rd (reg : RegName)
  /-- IDLE k: k cycles with `bus_en` = 0 -/
  | idle (k : Nat)
  /-- POLL reg, mask, value: one read a cycle until (result AND mask) = value -/
  | poll (reg : RegName) (mask value : Word)
  deriving DecidableEq, Repr

/-- CMD mnemonic = WR CMD, its encoding (R62). -/
def HostStmt.cmd (i : Instr) : HostStmt := .wr .CMD (encode i)
/-- CLR mask = WR STATUS, mask (R62). -/
def HostStmt.clr (mask : Word) : HostStmt := .wr .STATUS mask
/-- SILENCE = CMD PLAY SIL, 0, 0 (R62). -/
def HostStmt.silence : HostStmt := .cmd (.play 8#4 0#2 0#16)

/-- The pins of the cycle in which a statement's access runs, the other pins as i has them. -/
def HostStmt.drive (i : CycleInput) : HostStmt → CycleInput
  | .wr reg value => i.withWrite reg.offset value
  | .rd reg => i.withRead reg.offset
  | .idle _ => i.noAccess
  | .poll reg _ _ => i.withRead reg.offset

/-- What is left of a statement after a cycle whose `bus_rdata` was r. -/
def HostStmt.rest (r : Word) : HostStmt → List HostStmt
  | .wr _ _ => []
  | .rd _ => []
  | .idle k => if k ≤ 1 then [] else [.idle (k - 1)]
  | .poll reg mask value => if r &&& mask = value then [] else [.poll reg mask value]

/-- A straight-line host program without its empty IDLE statements at the front. -/
def skipEmpty : List HostStmt → List HostStmt
  | .idle 0 :: rest => skipEmpty rest
  | p => p

/-- The pins a program drives in a cycle; no access once it has ended. -/
def programPins (i : CycleInput) (p : List HostStmt) : CycleInput :=
  match skipEmpty p with
  | [] => i.noAccess
  | st :: _ => st.drive i

/-- What is left of a program after a cycle whose `bus_rdata` was r. -/
def programRest (r : Word) (p : List HostStmt) : List HostStmt :=
  match skipEmpty p with
  | [] => []
  | st :: rest => st.rest r ++ rest

/-- One cycle of the block with a straight-line host program; i gives the pins that are not the bus. -/
def programCycle (i : CycleInput) (p : List HostStmt) (s : State) : Result × List HostStmt :=
  (cycle { s with script := programPins i p :: s.script.tail }, programRest (busRdata (programPins i p) s) p)

/-- The control points of the reference host program (R115). o is the octave read, n the note read. A REARM or PLAY is
followed by a read of STATUS, the only way a refusal is reported (R141; log entry 18). -/
inductive Foreground where
  | readOctave
  | silence
  | silenceCheck
  | silenceWait
  | silenceClear
  | rearm (o : OctCode)
  | rearmCheck (o : OctCode)
  | rearmWait (o : OctCode)
  | rearmClear (o : OctCode)
  | measure (o : OctCode)
  | measurePoll (o : OctCode)
  | measureClear (o : OctCode)
  | readNote (o : OctCode)
  | play (n : NoteCode) (o : OctCode)
  | playCheck (n : NoteCode) (o : OctCode)
  | playWait (n : NoteCode) (o : OctCode)
  | playClear (n : NoteCode) (o : OctCode)
  | playPoll
  | synClear
  deriving DecidableEq, Repr

/-- The statement the loop runs at a control point; FG_DUR_MS is a host constant, reference 250 (R115). -/
def Foreground.stmt (fgDurMs : BitVec 16) : Foreground → HostStmt
  | .readOctave => .rd .OCTSEL
  | .silence => .silence
  | .silenceCheck => .rd .STATUS
  | .silenceWait => .poll .STATUS 0x4#32 0x0#32
  | .silenceClear => .clr 0x1000#32
  | .rearm _ => .cmd .rearm
  | .rearmCheck _ => .rd .STATUS
  | .rearmWait _ => .poll .STATUS 0x4#32 0x0#32
  | .rearmClear _ => .clr 0x1000#32
  | .measure _ => .cmd .measure
  | .measurePoll _ => .poll .STATUS 0x10#32 0x10#32
  | .measureClear _ => .clr 0x10#32
  | .readNote _ => .rd .MNOTE
  | .play n o => .cmd (.play n o fgDurMs)
  | .playCheck _ _ => .rd .STATUS
  | .playWait _ _ => .poll .STATUS 0x4#32 0x0#32
  | .playClear _ _ => .clr 0x1000#32
  | .playPoll => .poll .STATUS 0x40#32 0x40#32
  | .synClear => .clr 0x40#32

/-- The control point after a cycle whose `bus_rdata` was r (R115). -/
def Foreground.after (r : Word) : Foreground → Foreground
  | .readOctave => if r.extractLsb' 0 2 = inactive then .silence else .rearm (r.extractLsb' 0 2)
  | .silence => .silenceCheck
  | .silenceCheck => if r.getLsbD 12 then .silenceWait else .readOctave
  | .silenceWait => if r &&& 0x4#32 = 0x0#32 then .silenceClear else .silenceWait
  | .silenceClear => .silence
  | .rearm o => .rearmCheck o
  | .rearmCheck o => if r.getLsbD 12 then .rearmWait o else .measure o
  | .rearmWait o => if r &&& 0x4#32 = 0x0#32 then .rearmClear o else .rearmWait o
  | .rearmClear o => .rearm o
  | .measure o => .measurePoll o
  | .measurePoll o => if r &&& 0x10#32 = 0x10#32 then .measureClear o else .measurePoll o
  | .measureClear o => .readNote o
  | .readNote o => .play (r.extractLsb' 0 4) o
  | .play n o => .playCheck n o
  | .playCheck n o => if r.getLsbD 12 then .playWait n o else .playPoll
  | .playWait n o => if r &&& 0x4#32 = 0x0#32 then .playClear n o else .playWait n o
  | .playClear n o => .play n o
  | .playPoll => if r &&& 0x40#32 = 0x40#32 then .synClear else .playPoll
  | .synClear => .readOctave

/-- One cycle of the block with the reference host program; i gives the pins that are not the bus. -/
def foregroundCycle (fgDurMs : BitVec 16) (i : CycleInput) (h : Foreground) (s : State) : Result × Foreground :=
  (cycle { s with script := (h.stmt fgDurMs).drive i :: s.script.tail },
    h.after (busRdata ((h.stmt fgDurMs).drive i) s))

end Sys2Proof.Machine
end

