-- ==== Sys2Proof/Safety.lean ====
section
/-! DEFINITION. The terms the statements use: the invariant of the block's state, and runs on given inputs. -/

namespace Sys2Proof.Machine

/-- A voice in range (R25, R87): codes legal, IDX 0 to 99; while it plays, a scale note at octave 1 or 2 with the divisor
LOUD or SOFT, a slot of at least one cycle, and WAIT inside the slot. -/
abbrev Voice.Inv (v : Voice) : Prop :=
  v.note.toNat ≤ 8 ∧ v.oct.toNat ≠ 3 ∧ v.idx.toNat < tableSize ∧
  (v.act = true →
    v.note.toNat < 8 ∧ v.oct ≠ inactive ∧ v.div ≠ .mute ∧ v.wait.toNat < v.per.toNat)

/-- The Ranger in range (R63 to R72): RTIM counts down only in the trigger phases, RCNT is the count so far, a timeout runs
only after the trigger phase and has at least one cycle left. -/
abbrev Ranger.Inv (p : Params) (r : Ranger) : Prop :=
  (r.st = .trigLow → 1 ≤ r.rtim.toNat ∧ r.rtim.toNat ≤ p.settleCyc) ∧
  (r.st = .trigHigh → 1 ≤ r.rtim.toNat ∧ r.rtim.toNat ≤ p.pulseCyc) ∧
  (r.st ≠ .trigLow → r.st ≠ .trigHigh → r.rtim = 0#16) ∧
  (r.st = .trigLow ∨ r.st = .trigHigh ∨ r.st = .waitStale ∨ r.st = .waitRise → r.rcnt = 0#32) ∧
  (r.st = .count ∨ r.st = .convert → 1 ≤ r.rcnt.toNat) ∧
  (r.tmoEn = true →
    1 ≤ r.tmoLeft.toNat ∧ (r.st = .waitStale ∨ r.st = .waitRise ∨ r.st = .count ∨ r.st = .convert))

/-- The IdleSequencer in range (R27, R101 to R104): ARMED with a running countdown, or FIRING with the countdown
stopped at 0 and MEL_IDX 0 to 8. -/
abbrev Sequencer.Inv (p : Params) (q : Sequencer) : Prop :=
  q.snapNote.toNat ≤ 8 ∧ q.snapOct.toNat ≠ 3 ∧
  (q.st = .armed → 1 ≤ q.idleCnt.toNat ∧ q.idleCnt.toNat ≤ p.idleTicks.toNat ∧ q.melIdx = 0#4) ∧
  (q.st = .firing → q.idleCnt = 0#32 ∧ q.melIdx.toNat ≤ 8)

/-- The invariant of the block's state: the parameters meet R8, every unit is in range, ADC and DAC values fit their
widths (R24, R26), no code is a reserved one (R13), MV plays only while FIRING and it plays the note of CUR_NOTE (R89,
R103), CUR_OCT is MEL_OCT while FIRING (R102, R119), OCT_SEL is the decode of the sampled buttons (R110). -/
abbrev State.Inv (s : State) : Prop :=
  s.cfg.Valid ∧
  s.rng.Inv s.cfg ∧
  s.fv.Inv ∧ s.mv.Inv ∧
  s.seq.Inv s.cfg ∧
  s.adc.data.toNat < 2 ^ s.cfg.adcW ∧ s.adc.raw.toNat < 2 ^ s.cfg.adcW ∧
  s.dac.out.toNat < 2 ^ s.cfg.dacW ∧
  s.play.note.toNat ≤ 8 ∧ s.play.oct.toNat ≠ 3 ∧
  (s.mv.act = true → s.seq.st = .firing ∧ 1 ≤ s.seq.melIdx.toNat ∧ s.mv.note = s.play.note) ∧
  (s.seq.st = .firing → s.play.oct = s.cfg.melOct) ∧
  (s.seq.st = .firing → 1 ≤ s.seq.melIdx.toNat → s.play.note.toNat + 1 = s.seq.melIdx.toNat) ∧
  s.oct.sel = octaveDecode s.oct.btn1Q s.oct.btn2Q

/-- s with i put before the inputs its script lists: the coming cycle is one with the inputs i. -/
def State.withInput (s : State) (i : CycleInput) : State := { s with script := i :: s.script }

/-- One step on the inputs i. -/
def stepOn (i : CycleInput) (s : State) : Result := step (s.withInput i)

/-- The run on the inputs listed, the first cycle's first, one step a cycle. -/
def runOn : List CycleInput → State → Result
  | [], s => .next s
  | i :: is, s =>
    match stepOn i s with
    | .next t => runOn is t
    | .fault r => .fault r
    | .refused r => .refused r

/-- C holds in every cycle of the run on the inputs listed: of the state the cycle starts in and of its inputs. -/
def EachCycle (C : State → CycleInput → Prop) : List CycleInput → State → Prop
  | [], _ => True
  | i :: is, s => C s i ∧ ∀ t, stepOn i s = .next t → EachCycle C is t

end Sys2Proof.Machine

namespace Sys2Proof

/-- A cycle without reset. -/
abbrev CycleInput.live (i : CycleInput) : Prop := i.rst = false

/-- The host writes a REARM command in a cycle with these inputs (R100: the CMD word 0x00000003). -/
def CycleInput.rearms (i : CycleInput) : Bool := decide (Machine.cmdWord i = some 0x00000003#32)

/-- The host writes STATUS in a cycle with these inputs (R41: `wr_status`). -/
def CycleInput.writesStatus (i : CycleInput) : Bool := i.busEn && i.busWe && decide (Machine.slotOf i.busAddr = 1#6)

end Sys2Proof

namespace Sys2Proof.Machine

/-- A CMD word R58 calls illegal, in the numbers of the rule: OP = v[3:0], v[31:4], v[15:10], v[7:4], v[9:8]. -/
abbrev IllegalWord (v : Word) : Prop :=
  ((v.toNat % 16 = 0 ∨ v.toNat % 16 = 1 ∨ v.toNat % 16 = 3) ∧ v.toNat / 16 ≠ 0) ∨
  (v.toNat % 16 = 2 ∧
    (v.toNat / 1024 % 64 ≠ 0 ∨ 8 < v.toNat / 16 % 16 ∨ v.toNat / 256 % 4 = 3)) ∨
  4 ≤ v.toNat % 16

/-- Reps of R85 as a number: min(floor(dur_ms * oct * F_CLK_HZ / (1000 * TABLE_SIZE * CYCLE[n])), 2^32 - 1). -/
def repsNat (p : Params) (n : Fin 8) (oct : OctCode) (durMs : BitVec 16) : Nat :=
  min (durMs.toNat * oct.toNat * p.fClkHz / (1000 * 100 * p.cycleCount[n].toNat)) (2 ^ 32 - 1)

/-- P of R84 as a number: max(1, floor(CYCLE[n] / oct) - DELAY_CORR). -/
def periodNat (p : Params) (n : Fin 8) (oct : OctCode) : Nat :=
  max 1 (p.cycleCount[n].toNat / oct.toNat - p.delayCorr.toNat)

/-- L_n of R107: the cycles melody note n takes when its load cycle sees the volume level d. -/
def melodyNoteCycles (p : Params) (d : VolLevel) (n : Fin 8) : Nat :=
  if d = .mute ∨ repsNat p n p.melOct p.melDurMs = 0 then 1
  else 1 + (100 * repsNat p n p.melOct p.melDurMs * periodNat p n p.melOct + 1)

/-- The sum of L_0 to L_7 (R107). -/
def melodyCycles (p : Params) (d : VolLevel) : Nat := ((List.finRange 8).map (melodyNoteCycles p d)).sum

/-- The PlaybackState of a PLAY accepted in this cycle (R82), none where no PLAY is accepted. -/
def acceptedPlay (i : CycleInput) (s : State) : Option PlayState :=
  match cmdWord i with
  | none => none
  | some v =>
    match decode v with
    | .ok (.play note oct _) => if s.seq.st = .armed ∧ s.fv.act = false then some ⟨note, oct⟩ else none
    | _ => none

/-- PLAY with these operands is a no-op at the volume level of s (R83): Silent holds or Reps = 0. -/
abbrev PlayIsNoOp (s : State) (note : NoteCode) (oct : OctCode) (durMs : BitVec 16) : Prop :=
  note = 8#4 ∨ oct = 0#2 ∨ s.adc.vlevel = .mute ∨
    ∃ n : Fin 8, note.toNat = n.val ∧ repsNat s.cfg n oct durMs = 0

/-- The command of this cycle is a PLAY of note n at octave 1 or 2 for durMs, in the numbers of R57, and it sounds: the volume
level of s is not MUTE and there is a repeat (R83). -/
abbrev PlaySounds (i : CycleInput) (s : State) (n : Fin 8) (oct : OctCode) (durMs : BitVec 16) : Prop :=
  (∃ v, cmdWord i = some v ∧ v.toNat = 2 + 16 * n.val + 256 * oct.toNat + 65536 * durMs.toNat) ∧
  (oct = 1#2 ∨ oct = 2#2) ∧ s.adc.vlevel ≠ .mute ∧ 1 ≤ repsNat s.cfg n oct durMs

/-- The voice VoiceLoad leaves, with the repeats of R85 and the period of R84 (R87): not yet stepped. -/
def loadedVoice (p : Params) (n : Fin 8) (oct : OctCode) (div : VolLevel) (durMs : BitVec 16) : Voice :=
  { act := true, note := BitVec.ofNat 4 n.val, oct := oct, div := div, reps := BitVec.ofNat 32 (repsNat p n oct durMs)
    idx := 0#7, wait := 0#16, per := BitVec.ofNat 16 (periodNat p n oct) }

/-- w is the voice v after one step, in the words of R88: it ends, it starts a slot (the last of a table walk or another one), or
it waits. -/
abbrev Voice.StepsTo (v w : Voice) : Prop :=
  (v.wait = 0#16 → v.reps = 0#32 → w = { v with act := false }) ∧
  (v.wait = 0#16 → v.reps ≠ 0#32 → v.idx = 99#7 →
    w = { v with idx := 0#7, reps := v.reps - 1#32, wait := v.per - 1#16 }) ∧
  (v.wait = 0#16 → v.reps ≠ 0#32 → v.idx ≠ 99#7 → w = { v with idx := v.idx + 1#7, wait := v.per - 1#16 }) ∧
  (v.wait ≠ 0#16 → w = { v with wait := v.wait - 1#16 })

/-- The condition the command of this cycle raises by itself (R63, R81, R83, R100, R109), none where it raises none. -/
def commandRaises (i : CycleInput) (s : State) : Option Cond :=
  match cmdWord i with
  | none => none
  | some v =>
    match decode v with
    | .error _ => some .errCmd
    | .ok (.reserved4to7 _ _) => some .errCmd
    | .ok (.reserved8toF _ _) => some .errCmd
    | .ok .nop => none
    | .ok .measure => if s.rng.st = .idle then none else some .errBusy
    | .ok .rearm => if s.seq.st = .firing then some .errLock else none
    | .ok (.play note oct durMs) =>
      if s.seq.st = .firing then some .errLock
      else if s.fv.act = true then some .errBusy
      else if PlayIsNoOp s note oct durMs then some .synDone
      else none

/-- The measurement times out in this cycle, in the words of R72. -/
abbrev TimeoutCycle (i : CycleInput) (s : State) : Prop :=
  s.rng.tmoEn = true ∧ s.rng.tmoLeft = 1#32 ∧
    (s.rng.st = .waitStale ∨ s.rng.st = .waitRise ∨ (s.rng.st = .count ∧ i.echo = true))

/-- set_B(s, in) of R41: the rule that sets condition c fires in this cycle. -/
abbrev SetInCycle (i : CycleInput) (s : State) (c : Cond) : Prop :=
  commandRaises i s = some c ∨
  match c with
  | .rngDone => s.rng.st = .convert ∨ TimeoutCycle i s
  | .rngTmo => TimeoutCycle i s
  | .synDone => s.seq.st = .armed ∧ s.fv.act = true ∧ s.fv.wait = 0#16 ∧ s.fv.reps = 0#32
  | .seqStart => s.seq.st = .armed ∧ s.seq.idleCnt.toNat ≤ 1 ∧ i.rearms = false
  | .seqDone => s.seq.st = .firing ∧ s.mv.act = false ∧ s.seq.melIdx = 8#4
  | .volUpd => s.adc.pend = true
  | .errCmd => False
  | .errBusy => False
  | .errLock => False

end Sys2Proof.Machine
end

