-- ==== Sys2Proof/Certificates/Slice0/Obligations.lean ====
section
/-! DEFINITION. The statements for the provers, from the numbered rules of spec/. OBLIGATIONS.json lists them. -/

open Sys2Proof Sys2Proof.Machine

/-! ### Encoding -/

/-- R56 to R59: decoding the word of a well-formed instruction gives the instruction back, with every operand at every
value its encoding admits. -/
def Obligations.DecodeOfEncodeGivesInstruction : Prop :=
  ∀ i : Instr, i.wellFormed = true → decode (encode i) = .ok i

/-- R56 to R60: a word that decodes is the word of the instruction it decodes to, and that instruction is well formed: no
bit of a legal or reserved word is dropped. -/
def Obligations.EncodeOfDecodeGivesWord : Prop :=
  ∀ (v : Word) (i : Instr), decode v = .ok i → encode i = v ∧ i.wellFormed = true

/-- R58, R60, R109: the CMD words R58 calls illegal raise ERR_CMD and change nothing else; every other word is one of the
four commands. -/
def Obligations.IllegalWordRaisesErrCmdOnly : Prop :=
  ∀ (s : State) (v : Word),
    (IllegalWord v → cmdWrite s v = .next { s with sticky := s.sticky ||| 0x040#9 }) ∧
    (¬ IllegalWord v →
      decode v = .ok .nop ∨ decode v = .ok .measure ∨ decode v = .ok .rearm ∨
      decode v = .ok (.play (v.extractLsb' 4 4) (v.extractLsb' 8 2) (v.extractLsb' 16 16)))

/-- Ten words of 30_encoding.md section 3 and 95_test_vectors.md section 2.7 decode to the command, or reserved row, that stands
beside them there. For the last two words (0x80000001 of section 2.7, 0x000A0192 of section 2.5) the spec states ERR_CMD only:
that the decoder rejects them, and by which names, is the model's own (DEDUCED, log entry 15). -/
def Obligations.SpecWordsDecode : Prop :=
  decode 0x00000000#32 = .ok .nop ∧ decode 0x00000001#32 = .ok .measure ∧ decode 0x00000003#32 = .ok .rearm ∧
  decode 0x01F40102#32 = .ok (.play 0#4 1#2 500#16) ∧ decode 0x01F40172#32 = .ok (.play 7#4 1#2 500#16) ∧
  decode 0x00000082#32 = .ok (.play 8#4 0#2 0#16) ∧ decode 0x03E80252#32 = .ok (.play 5#4 2#2 1000#16) ∧
  decode 0xFFFF0282#32 = .ok (.play 8#4 2#2 65535#16) ∧
  decode 0x00000004#32 = .ok (.reserved4to7 0#2 0#28) ∧ decode 0xFFFFFFFF#32 = .ok (.reserved8toF 7#3 0xFFFFFFF#28) ∧
  decode 0x80000001#32 = .error (.reservedFieldNotZero 1#4) ∧ decode 0x000A0192#32 = .error (.reservedNote 9#4)

/-! ### The commands: what each does when it completes, and where it is refused -/

/-- R108: NOP answers a next state and changes nothing. -/
def Obligations.NopChangesNothing : Prop :=
  ∀ s : State, exec .nop s = .next s

/-- R109: a word of either reserved range answers a next state with ERR_CMD set and nothing else changed. -/
def Obligations.ReservedWordsSetErrCmd : Prop :=
  ∀ (s : State) (a : BitVec 2) (b : BitVec 3) (r : BitVec 28),
    exec (.reserved4to7 a r) s = .next { s with sticky := s.sticky ||| 0x040#9 } ∧
    exec (.reserved8toF b r) s = .next { s with sticky := s.sticky ||| 0x040#9 }

/-- R63, R118: MEASURE with the Ranger idle starts the trigger phase with RTIM = SETTLE_CYC, RCNT, TMO_EN, TMO_LEFT 0,
whatever the IdleSequencer does; DIST and PWCNT keep their values (R142), and no other field changes. While a measurement
runs it sets ERR_BUSY and changes nothing else. -/
def Obligations.MeasureStartsTriggerOrIsBusy : Prop :=
  ∀ s : State, s.cfg.Valid →
    (s.rng.st = .idle →
      ∃ t, exec .measure s = .next t ∧
        t = { s with rng := t.rng } ∧
        t.rng.st = .trigLow ∧ t.rng.rtim.toNat = (2 * s.cfg.fClkHz + 999999) / 1000000 ∧
        t.rng.rcnt = 0#32 ∧ t.rng.tmoEn = false ∧ t.rng.tmoLeft = 0#32 ∧
        t.rng.dist = s.rng.dist ∧ t.rng.pwcnt = s.rng.pwcnt) ∧
    (s.rng.st ≠ .idle → exec .measure s = .next { s with sticky := s.sticky ||| 0x080#9 })

/-- R81, R82, R84, R85, R87: a PLAY of a scale note at octave 1 or 2, accepted with a volume level that is not MUTE and at
least one repeat, records PlaybackState and loads FV; nothing else changes. -/
def Obligations.PlayLoadsForegroundVoice : Prop :=
  ∀ (s : State) (n : Fin 8) (oct : OctCode) (durMs : BitVec 16),
    (oct = 1#2 ∨ oct = 2#2) → s.seq.st = .armed → s.fv.act = false → s.adc.vlevel ≠ .mute →
    1 ≤ repsNat s.cfg n oct durMs →
    exec (.play (BitVec.ofNat 4 n.val) oct durMs) s =
      .next { s with
        play := { note := BitVec.ofNat 4 n.val, oct := oct }
        fv := { act := true, note := BitVec.ofNat 4 n.val, oct := oct, div := s.adc.vlevel,
                reps := BitVec.ofNat 32 (repsNat s.cfg n oct durMs), idx := 0#7, wait := 0#16,
                per := BitVec.ofNat 16 (periodNat s.cfg n oct) } }

/-- R82, R83: an accepted PLAY for which Silent holds or Reps = 0 records PlaybackState and sets SYN_DONE; it loads no voice,
writes no sample, and nothing else changes. -/
def Obligations.SilentPlayOnlyRecords : Prop :=
  ∀ (s : State) (note : NoteCode) (oct : OctCode) (durMs : BitVec 16),
    note.toNat ≤ 8 → oct ≠ 3#2 → s.seq.st = .armed → s.fv.act = false → PlayIsNoOp s note oct durMs →
    exec (.play note oct durMs) s =
      .next { s with play := { note := note, oct := oct }, sticky := s.sticky ||| 0x004#9 }

/-- R81, R109, R118, R119, R122: a PLAY is refused with ERR_CMD for an illegal operand, else with ERR_LOCK while FIRING, else
with ERR_BUSY while FV plays; a refused PLAY changes nothing but that bit. -/
def Obligations.PlayRefusals : Prop :=
  ∀ (s : State) (note : NoteCode) (oct : OctCode) (durMs : BitVec 16),
    (8 < note.toNat ∨ oct = 3#2 →
      exec (.play note oct durMs) s = .next { s with sticky := s.sticky ||| 0x040#9 }) ∧
    (note.toNat ≤ 8 → oct ≠ 3#2 → s.seq.st = .firing →
      exec (.play note oct durMs) s = .next { s with sticky := s.sticky ||| 0x100#9 }) ∧
    (note.toNat ≤ 8 → oct ≠ 3#2 → s.seq.st = .armed → s.fv.act = true →
      exec (.play note oct durMs) s = .next { s with sticky := s.sticky ||| 0x080#9 })

/-- R100: REARM reloads IDLE_CNT with IDLE_TICKS while ARMED, and is refused with ERR_LOCK while FIRING; nothing else
changes. -/
def Obligations.RearmReloadsIdleCounter : Prop :=
  ∀ s : State,
    (s.seq.st = .armed → exec .rearm s = .next { s with seq := { s.seq with idleCnt := s.cfg.idleTicks } }) ∧
    (s.seq.st = .firing → exec .rearm s = .next { s with sticky := s.sticky ||| 0x100#9 })

/-- R122: a CMD write answers a next state in which at most one error bit is newly raised, chosen in the order ERR_CMD,
ERR_LOCK, ERR_BUSY; a refused command changes nothing but that bit, and an accepted one raises no error. -/
def Obligations.CommandRaisesAtMostOneError : Prop :=
  ∀ (s : State) (v : Word), ∃ t, cmdWrite s v = .next t ∧
    (IllegalWord v → t = s.raise .errCmd) ∧
    (¬ IllegalWord v → (v.toNat % 16 = 2 ∨ v.toNat % 16 = 3) → s.seq.st = .firing → t = s.raise .errLock) ∧
    (¬ IllegalWord v → v.toNat % 16 = 2 → s.seq.st = .armed → s.fv.act = true → t = s.raise .errBusy) ∧
    (¬ IllegalWord v → v.toNat % 16 = 1 → s.rng.st ≠ .idle → t = s.raise .errBusy) ∧
    (¬ IllegalWord v →
      (v.toNat % 16 = 0 ∨ (v.toNat % 16 = 1 ∧ s.rng.st = .idle) ∨ (v.toNat % 16 = 3 ∧ s.seq.st = .armed) ∨
        (v.toNat % 16 = 2 ∧ s.seq.st = .armed ∧ s.fv.act = false)) →
      t.flag .errCmd = s.flag .errCmd ∧ t.flag .errBusy = s.flag .errBusy ∧ t.flag .errLock = s.flag .errLock)

/-! ### The step -/

/-- In a cycle whose access writes to CMD a word that decodes to i (R39, R57), the step is exec of i followed by every unit's own
update, which reads the state at the start of the cycle; then the cycle is over. That R111 and R112 come to this form, exec
first and the units onto what it leaves, is the model's own (DEDUCED, log entry 4). -/
def Obligations.StepRunsDecodedCommand : Prop :=
  ∀ (s t : State) (v : Word) (i : Instr),
    s.cfg.Valid → s.input.rst = false → cmdWord s.input = some v → decode v = .ok i → exec i s = .next t →
    step s = .next (unitsCycle s.input s t).endCycle

/-- R113: with parameters in range every state has a next state, whatever the inputs; with parameters out of range the step is
refused. The range is that of R8 and, as the model's own choice (DEDUCED, log entry 3), PULSE_CYC below 2^16, ADC_W and DAC_W at
most 16: parameter sets that break only these are refused too. -/
def Obligations.StepIsTotalOnValidParameters : Prop :=
  ∀ s : State,
    (s.cfg.Valid → ∃ t, step s = .next t) ∧ (¬ s.cfg.Valid → step s = .refused .parametersOutOfRange)

/-- R108: a cycle with NOP is a cycle with no bus access. -/
def Obligations.NopCycleIsNoAccessCycle : Prop :=
  ∀ (s : State) (i : CycleInput), cmdWord i = some 0x00000000#32 → stepOn i s = stepOn i.noAccess s

/-- R36: a read gives RegRead of the state at the start of the cycle, whatever else that cycle does, and changes no state:
the cycle is one with no bus access. -/
def Obligations.ReadHasNoSideEffect : Prop :=
  ∀ (s : State) (i : CycleInput), i.busEn = true → i.busWe = false →
    stepOn i s = stepOn i.noAccess s ∧ (i.rst = false → busRdata i s = regRead s (i.busAddr.extractLsb' 2 6))

/-- R53: a write to an RO register or to an unmapped slot is a cycle with no bus access; of a word written to STATUS the bits
[3:0] (and [31:13], R41) have no effect, so that a write of bits [3:0] only is one too. -/
def Obligations.ReadOnlyWriteIsIgnored : Prop :=
  ∀ (s : State) (i : CycleInput), i.busEn = true → i.busWe = true →
    (4 ≤ (slotOf i.busAddr).toNat → stepOn i s = stepOn i.noAccess s) ∧
    (slotOf i.busAddr = 1#6 →
      stepOn i s = stepOn { i with busWdata := i.busWdata &&& 0x00001FF0#32 } s ∧
      (i.busWdata.toNat < 16 → stepOn i s = stepOn i.noAccess s))

/-- R117 to R119, R123: a cycle whose command is refused with an error is a cycle with no bus access, but for the error's
bit, which is set. -/
def Obligations.RefusedCommandOnlySetsItsBit : Prop :=
  ∀ (s : State) (i : CycleInput) (c : Cond), s.cfg.Valid → i.live →
    commandRaises i s = some c → (c = .errCmd ∨ c = .errBusy ∨ c = .errLock) →
    ∃ u, stepOn i.noAccess s = .next u ∧ stepOn i s = .next { u with sticky := u.sticky ||| c.mask }

/-- R41: after any cycle without reset each sticky bit is set_B(s, in) OR (s.B AND NOT (wr_status AND v[k])): set wins. -/
def Obligations.StickyBitsFollowSetAndClear : Prop :=
  ∀ s : State, s.cfg.Valid → s.input.rst = false →
    ∃ t, step s = .next t ∧
      ∀ c : Cond, t.flag c = true ↔
        (SetInCycle s.input s c ∨
          (s.flag c = true ∧ ¬ (s.input.writesStatus = true ∧ s.input.busWdata.getLsbD c.pos = true)))

/-! ### Invariants -/

/-- Every step from a state that meets the invariant leads to a state that meets it. -/
def Obligations.StepKeepsInvariant : Prop :=
  ∀ s t : State, s.Inv → step s = .next t → t.Inv

/-- R135: the reset state of every parameter set that R8 admits meets the invariant, State.reset among them. -/
def Obligations.ResetMeetsInvariant : Prop :=
  (∀ p : Params, p.Valid → (State.resetOf p).Inv) ∧ State.reset.Inv

/-- R7, R30: no step changes the build parameters, the waveform table and the cycle counts among them. -/
def Obligations.StepKeepsParameters : Prop :=
  ∀ s t : State, step s = .next t → t.cfg = s.cfg

/-- R28: a cycle without reset changes PLAYST only by an accepted PLAY, at melody entry, at a melody note, or at melody
exit. -/
def Obligations.PlaystHasFourWriters : Prop :=
  ∀ s t : State, s.input.rst = false → step s = .next t → t.play ≠ s.play →
    (∃ ps, acceptedPlay s.input s = some ps ∧ t.play.note = ps.note) ∨
    (s.seq.st = .armed ∧ s.seq.idleCnt.toNat ≤ 1 ∧ t.seq.st = .firing ∧ t.play.oct = s.cfg.melOct) ∨
    (s.seq.st = .firing ∧ s.mv.act = false ∧ s.seq.melIdx.toNat < 8 ∧ t.play.note = s.seq.melIdx) ∨
    (s.seq.st = .firing ∧ s.mv.act = false ∧ s.seq.melIdx = 8#4 ∧
      t.play = { note := s.seq.snapNote, oct := s.seq.snapOct })

/-- The model's runOn is the host's run of the machine on a script that starts with the inputs listed (log entry 1). -/
def Obligations.RunOfScriptIsRunOnInputs : Prop :=
  ∀ (is : List CycleInput) (s : State),
    Host.Core.run Sys2Proof.core is.length ({ s with script := is ++ s.script } : State) = runOn is s

/-! ### Reset -/

/-- R135: a cycle with `rst` = 1 leaves the reset state whatever else its inputs are, and a read in it gives 0. The
build parameters stay; the script and the cycle count are the model's own (log entry 19). -/
def Obligations.ResetCycleLeavesResetState : Prop :=
  ∀ s : State, s.cfg.Valid → s.input.rst = true →
    (s.input.busEn = true → s.input.busWe = false → busRdata s.input s = 0#32) ∧
    ∃ t, step s = .next t ∧ t.cfg = s.cfg ∧ t.script = s.script.tail ∧ t.cycle = s.cycle + 1 ∧
      t.sticky = 0#9 ∧ t.irqEn = 0#9 ∧ t.tmo = 0#32 ∧
      t.rng = ⟨.idle, 0#16, 0#32, false, 0#32, 0#32, 0#32⟩ ∧
      t.adc = ⟨false, 0#16, 0#16, .mute⟩ ∧
      t.fv = ⟨false, 8#4, 0#2, .mute, 0#32, 0#7, 0#16, 0#16⟩ ∧
      t.mv = ⟨false, 8#4, 0#2, .mute, 0#32, 0#7, 0#16, 0#16⟩ ∧
      t.dac = ⟨s.cfg.dacCenter, false⟩ ∧
      t.seq = ⟨.armed, s.cfg.idleTicks, 0#4, 8#4, 0#2⟩ ∧
      t.play = ⟨8#4, 0#2⟩ ∧ t.oct = ⟨0#2, false, false⟩

/-- R137: holding `rst` = 1 for k cycles, k at least 1, gives the same state as one cycle (but for the model's own cycle
count). -/
def Obligations.HoldingResetIsOneReset : Prop :=
  ∀ (s : State) (is : List CycleInput), s.cfg.Valid → is ≠ [] → (∀ i ∈ is, i.rst = true) →
    runOn is s = .next { State.resetOf s.cfg with script := s.script, cycle := s.cycle + is.length }

/-- R136: the outputs in the first cycle after reset, and STATUS; R23: MNOTE is SILENCE then, for every BAND_MIN_Q16 but 0 (log
entry 14). -/
def Obligations.OutputsAfterReset : Prop :=
  ∀ s t : State, s.input.rst = true → step s = .next t →
    t.outputs.trig = false ∧ t.outputs.dacOut = s.cfg.dacCenter ∧ t.outputs.dacWe = false ∧
    t.outputs.led1 = false ∧ t.outputs.led2 = false ∧ t.outputs.irq = false ∧ t.statusWord = 0#32 ∧
    (1 ≤ s.cfg.bandMin.toNat → memRead t 0x18#8 = 8#32)

/-! ### The register bus -/

/-- R40: the bits of STATUS as a read gives them; a cycle that reads STATUS is one with no bus access, so it clears nothing. -/
def Obligations.StatusReadBits : Prop :=
  ∀ (s : State) (a : BitVec 8), slotOf a = 1#6 →
    (∀ k : Nat, k < 32 → (memRead s a).getLsbD k =
      if k = 0 then decide (s.rng.st ≠ .idle)
      else if k = 1 then s.fv.act
      else if k = 2 then decide (s.seq.st = .firing)
      else if 4 ≤ k ∧ k ≤ 12 then s.sticky.getLsbD (k - 4)
      else false) ∧
    ∀ i : CycleInput, stepOn (i.withRead a) s = stepOn i.noAccess s

/-- R42, R43: IRQ_EN reads as its nine enables at bits [12:4] and 0 elsewhere; a write of v leaves v[12:4] in it, so that it
reads v with every other bit 0. A cycle that writes IRQ_EN is one with no bus access but for IRQ_EN, and a cycle without reset
that does not write it keeps it. -/
def Obligations.IrqEnableReadsBack : Prop :=
  (∀ (s : State) (a b : BitVec 8) (v : Word), slotOf a = 2#6 → slotOf b = 2#6 →
    memRead s b = s.irqEn.setWidth 32 <<< 4 ∧
    memWrite s a v = .next { s with irqEn := v.extractLsb' 4 9 } ∧
    memRead ({ s with irqEn := v.extractLsb' 4 9 } : State) b = v &&& 0x00001FF0#32) ∧
  ∀ (s : State) (i : CycleInput), s.cfg.Valid → i.live →
    (i.busEn = true → i.busWe = true → slotOf i.busAddr = 2#6 →
      ∃ u, stepOn i.noAccess s = .next u ∧ stepOn i s = .next { u with irqEn := i.busWdata.extractLsb' 4 9 }) ∧
    (¬ (i.busEn = true ∧ i.busWe = true ∧ slotOf i.busAddr = 2#6) →
      ∃ t, stepOn i s = .next t ∧ t.irqEn = s.irqEn)

/-- R44, R67: TMO reads back what was written; a write of TMO does not affect a measurement past its trigger phase: the
cycle is one with no access but for TMO, and the Ranger's later updates do not depend on TMO. A cycle without reset that does
not write TMO keeps it. -/
def Obligations.TmoReadsBackAndIsLatched : Prop :=
  ∀ (s : State) (i : CycleInput), s.cfg.Valid → i.live →
    (i.busEn = true → i.busWe = true → slotOf i.busAddr = 3#6 →
      ∃ t u, stepOn i s = .next t ∧ stepOn i.noAccess s = .next u ∧
        regRead t 3#6 = i.busWdata ∧ t = { u with tmo := i.busWdata }) ∧
    (¬ (i.busEn = true ∧ i.busWe = true ∧ slotOf i.busAddr = 3#6) →
      ∃ t, stepOn i s = .next t ∧ t.tmo = s.tmo ∧ regRead t 3#6 = s.tmo) ∧
    (s.rng.st = .waitStale ∨ s.rng.st = .waitRise ∨ s.rng.st = .count ∨ s.rng.st = .convert →
      ∀ (e : Bool) (x y : BitVec 32), s.rng.tick s.cfg x e = s.rng.tick s.cfg y e)

/-- R47 to R52: the fields of the read-only registers as numbers, and 0 in the unmapped slots and in CMD (R39). -/
def Obligations.ReadOnlyRegisterFields : Prop :=
  ∀ s : State,
    regRead s 0#6 = 0#32 ∧ (∀ k : BitVec 6, 13 ≤ k.toNat → regRead s k = 0#32) ∧
    regRead s 4#6 = s.rng.dist ∧ regRead s 5#6 = s.rng.pwcnt ∧ regRead s 10#6 = s.seq.idleCnt ∧
    (regRead s 6#6).toNat = (noteFor s.cfg s.rng.dist).toNat ∧
    (regRead s 7#6).toNat =
      s.adc.raw.toNat + 2 ^ 16 * s.adc.vlevel.code.toNat + 2 ^ 18 * s.adc.pend.toNat ∧
    (regRead s 8#6).toNat = s.play.note.toNat + 2 ^ 4 * s.play.oct.toNat ∧
    (regRead s 9#6).toNat = s.oct.sel.toNat + 2 ^ 2 * s.oct.btn1Q.toNat + 2 ^ 3 * s.oct.btn2Q.toNat ∧
    (regRead s 11#6).toNat =
      s.seq.melIdx.toNat + 2 ^ 4 * s.seq.snapNote.toNat + 2 ^ 8 * s.seq.snapOct.toNat +
        2 ^ 10 * s.seqFiring.toNat + 2 ^ 11 * s.mv.act.toNat ∧
    (regRead s 12#6).toNat = s.dac.out.toNat + 2 ^ 16 * s.dac.we.toNat

/-- R126: `irq` is 1 exactly when some bit k of 4 to 12 is 1 both in STATUS and in IRQ_EN; the sources stand at the bits the
rule lists. -/
def Obligations.IrqIsEnabledSticky : Prop :=
  ∀ s : State,
    (s.outputs.irq = true ↔
      ∃ k, 4 ≤ k ∧ k ≤ 12 ∧ s.statusWord.getLsbD k = true ∧ s.irqEnWord.getLsbD k = true) ∧
    s.statusWord.getLsbD 4 = s.flag .rngDone ∧ s.statusWord.getLsbD 5 = s.flag .rngTmo ∧
    s.statusWord.getLsbD 6 = s.flag .synDone ∧ s.statusWord.getLsbD 7 = s.flag .seqStart ∧
    s.statusWord.getLsbD 8 = s.flag .seqDone ∧ s.statusWord.getLsbD 9 = s.flag .volUpd ∧
    s.statusWord.getLsbD 10 = s.flag .errCmd ∧ s.statusWord.getLsbD 11 = s.flag .errBusy ∧
    s.statusWord.getLsbD 12 = s.flag .errLock

/-! ### The Ranger -/

/-- R65, R66: from the start of a measurement, whatever the echo and the bus do, the Ranger spends exactly SETTLE_CYC cycles
in TRIG_LOW with `trig` = 0, then exactly PULSE_CYC cycles in TRIG_HIGH with `trig` = 1, then is in WAIT_STALE. -/
def Obligations.TriggerPulseTiming : Prop :=
  ∀ (s : State) (is : List CycleInput), s.cfg.Valid → s.rng.st = .trigLow → s.rng.rtim.toNat = s.cfg.settleCyc →
    (∀ i ∈ is, i.live) → is.length ≤ s.cfg.settleCyc + s.cfg.pulseCyc →
    ∃ t, runOn is s = .next t ∧
      t.rng.st = (if is.length < s.cfg.settleCyc then .trigLow
        else if is.length < s.cfg.settleCyc + s.cfg.pulseCyc then .trigHigh else .waitStale) ∧
      (t.outputs.trig = true ↔
        s.cfg.settleCyc ≤ is.length ∧ is.length < s.cfg.settleCyc + s.cfg.pulseCyc)

/-- R66, R67: the last TRIG_HIGH cycle moves to WAIT_STALE and latches TMO: TMO_EN = (TMO != 0), TMO_LEFT = TMO. -/
def Obligations.TimeoutIsLatchedAfterTrigger : Prop :=
  ∀ s : State, s.cfg.Valid → s.input.rst = false → s.rng.st = .trigHigh → s.rng.rtim = 1#16 →
    ∃ t, step s = .next t ∧
      t.rng = { s.rng with st := .waitStale, rtim := 0#16, tmoEn := decide (s.tmo ≠ 0#32), tmoLeft := s.tmo }

/-- R68 to R72: from WAIT_STALE a stale high level is waited out and discarded, then comes a low gap, then a pulse of N cycles
(from WAIT_RISE the gap may be empty); with no timeout, or with more cycles left than these take, the measurement ends two cycles
after the pulse with PWCNT = N (saturated), DIST = Dist(PWCNT), RNG_DONE = 1, the Ranger idle, and RNG_TMO not raised. -/
def Obligations.EchoPulseIsMeasured : Prop :=
  ∀ (s : State) (stale gap pulse : List CycleInput) (low last : CycleInput), s.cfg.Valid →
    ((s.rng.st = .waitStale ∧ gap ≠ []) ∨ (s.rng.st = .waitRise ∧ stale = [])) →
    (s.rng.tmoEn = true → stale.length + gap.length + pulse.length < s.rng.tmoLeft.toNat) →
    (∀ i ∈ stale, i.live ∧ i.echo = true) → (∀ i ∈ gap, i.live ∧ i.echo = false) →
    pulse ≠ [] → (∀ i ∈ pulse, i.live ∧ i.echo = true) → low.live → low.echo = false → last.live →
    ∃ t, runOn (stale ++ gap ++ pulse ++ [low, last]) s = .next t ∧
      t.rng.st = .idle ∧ t.rng.tmoEn = false ∧ t.rng.pwcnt.toNat = min pulse.length (2 ^ 32 - 1) ∧
      t.rng.dist = distOf s.cfg t.rng.pwcnt ∧ t.flag .rngDone = true ∧
      (t.flag .rngTmo = true → s.flag .rngTmo = true)

/-- R72, R120: in every run without reset in which no COUNT cycle samples `echo` = 0 (there normal completion wins), a measurement
with T cycles left waits or counts for fewer than T cycles and times out in the T-th, whatever the echo does: the Ranger idle,
DIST = 0xFFFFFFFF, PWCNT = RCNT of the cycle before, RNG_TMO and RNG_DONE set. RCNT of the cycle before is the ticks counted so
far: from COUNT one more for each cycle but the last; after stale high cycles c, low cycles a and a pulse b that the timeout cuts
off, one for each cycle of b but the last; before the rise what it was. -/
def Obligations.TimeoutFiresOnTime : Prop :=
  ∀ (s : State) (is : List CycleInput), s.cfg.Valid → s.rng.tmoEn = true →
    (s.rng.st = .waitStale ∨ s.rng.st = .waitRise ∨ s.rng.st = .count) →
    1 ≤ s.rng.tmoLeft.toNat → is.length ≤ s.rng.tmoLeft.toNat → (∀ i ∈ is, i.live) →
    EachCycle (fun w i => w.rng.st = .count → i.echo = true) is s →
    ∃ t, runOn is s = .next t ∧
      (is.length < s.rng.tmoLeft.toNat →
        (t.rng.st = .waitStale ∨ t.rng.st = .waitRise ∨ t.rng.st = .count) ∧ t.rng.tmoEn = true ∧
        t.rng.tmoLeft.toNat = s.rng.tmoLeft.toNat - is.length ∧ t.rng.dist = s.rng.dist ∧ t.rng.pwcnt = s.rng.pwcnt) ∧
      (is.length = s.rng.tmoLeft.toNat →
        t.rng.st = .idle ∧ t.rng.tmoEn = false ∧ t.rng.dist = 0xFFFFFFFF#32 ∧ noteFor s.cfg t.rng.dist = 8#4 ∧
        t.flag .rngTmo = true ∧ t.flag .rngDone = true ∧
        (∃ w, runOn is.dropLast s = .next w ∧ t.rng.pwcnt = w.rng.rcnt) ∧
        (s.rng.st = .count → t.rng.pwcnt.toNat = min (s.rng.rcnt.toNat + (is.length - 1)) (2 ^ 32 - 1)) ∧
        (∀ c a b : List CycleInput, is = c ++ a ++ b →
          (∀ i ∈ c, i.echo = true) → (∀ i ∈ a, i.echo = false) → (∀ i ∈ b, i.echo = true) →
          ((s.rng.st = .waitRise ∧ c = []) ∨ (s.rng.st = .waitStale ∧ (a ≠ [] ∨ b = []))) →
          t.rng.pwcnt.toNat = if 2 ≤ b.length then min (b.length - 1) (2 ^ 32 - 1) else s.rng.rcnt.toNat))

/-- R63 to R72, R142: the Ranger after every cycle without reset, all its fields. Normal completion wins in a COUNT cycle with
`echo` = 0, even in the cycle in which the timeout would fire. Only CONVERT and a timeout write DIST and PWCNT, and an idle Ranger
without a MEASURE keeps every field. -/
def Obligations.CompletionWinsOverTimeout : Prop :=
  ∀ s : State, s.cfg.Valid → s.input.rst = false →
    ∃ t, step s = .next t ∧
      (s.rng.st = .count → s.input.echo = false → t.rng = { s.rng with st := .convert }) ∧
      (TimeoutCycle s.input s →
        t.rng = { s.rng with st := .idle, tmoEn := false, dist := 0xFFFFFFFF#32, pwcnt := s.rng.rcnt }) ∧
      (s.rng.st = .convert →
        t.rng = { s.rng with st := .idle, tmoEn := false, dist := distOf s.cfg s.rng.rcnt, pwcnt := s.rng.rcnt }) ∧
      (s.rng.st ≠ .convert → ¬ TimeoutCycle s.input s → t.rng.dist = s.rng.dist ∧ t.rng.pwcnt = s.rng.pwcnt) ∧
      (s.rng.st = .idle → cmdWord s.input ≠ some 0x00000001#32 → t.rng = s.rng) ∧
      (s.rng.st = .idle → cmdWord s.input = some 0x00000001#32 →
        t.rng = { s.rng with
          st := .trigLow, rtim := BitVec.ofNat 16 ((2 * s.cfg.fClkHz + 999999) / 1000000), rcnt := 0#32
          tmoEn := false, tmoLeft := 0#32 }) ∧
      (s.rng.st = .trigLow →
        t.rng = if s.rng.rtim = 1#16 then
            { s.rng with st := .trigHigh, rtim := BitVec.ofNat 16 ((10 * s.cfg.fClkHz + 999999) / 1000000) }
          else { s.rng with rtim := s.rng.rtim - 1#16 }) ∧
      (s.rng.st = .trigHigh →
        t.rng = if s.rng.rtim = 1#16 then
            { s.rng with st := .waitStale, rtim := 0#16, tmoEn := decide (s.tmo ≠ 0#32), tmoLeft := s.tmo }
          else { s.rng with rtim := s.rng.rtim - 1#16 }) ∧
      (¬ TimeoutCycle s.input s →
        (s.rng.st = .waitStale →
          t.rng = { s.rng with
            st := if s.input.echo then .waitStale else .waitRise
            tmoLeft := if s.rng.tmoEn then s.rng.tmoLeft - 1#32 else s.rng.tmoLeft }) ∧
        (s.rng.st = .waitRise →
          t.rng = { s.rng with
            st := if s.input.echo then .count else .waitRise
            rcnt := if s.input.echo then 1#32 else s.rng.rcnt
            tmoLeft := if s.rng.tmoEn then s.rng.tmoLeft - 1#32 else s.rng.tmoLeft }) ∧
        (s.rng.st = .count → s.input.echo = true →
          t.rng = { s.rng with
            rcnt := BitVec.ofNat 32 (min (s.rng.rcnt.toNat + 1) (2 ^ 32 - 1))
            tmoLeft := if s.rng.tmoEn then s.rng.tmoLeft - 1#32 else s.rng.tmoLeft }))

/-- R147: with no timeout a measurement whose echo never rises (or never falls) never ends: RNG_BUSY stays 1, and a
MEASURE in any later cycle is refused with ERR_BUSY. -/
def Obligations.UnboundedWaitNeverEnds : Prop :=
  ∀ (s : State) (is : List CycleInput) (m : CycleInput) (e : Bool), s.cfg.Valid → s.rng.tmoEn = false →
    ((e = false ∧ s.rng.st = .waitRise) ∨ (e = true ∧ (s.rng.st = .waitStale ∨ s.rng.st = .count))) →
    (∀ i ∈ is, i.live ∧ i.echo = e) → m.live → m.echo = e → cmdWord m = some 0x00000001#32 →
    ∃ t u, runOn is s = .next t ∧ t.statusWord.getLsbD 0 = true ∧ t.rng.st = s.rng.st ∧
      stepOn m t = .next u ∧ u.flag .errBusy = true ∧ u.rng.st = s.rng.st

/-- R73 to R76: Dist(N) from the integer formulas, and it is monotone non-decreasing in N. -/
def Obligations.DistanceIsMonotone : Prop :=
  ∀ (p : Params) (m n : BitVec 32),
    (∀ dur d : Nat, (dur : Int) = max 0 ((n.toNat : Int) * p.tickScale.toNat + p.tickOffset.toInt) →
      d = dur * p.sos.toNat / 2 ^ 17 → (distOf p n).toNat = min (d + d / 10) (2 ^ 32 - 1)) ∧
    (m.toNat ≤ n.toNat → (distOf p m).toNat ≤ (distOf p n).toNat)

/-- 40_ranger.md section 5 and 92_eei_decisions.md D31: the Ranger and the audio units do not change each other's state. Two
states that agree on the parameters, TMO and the Ranger, in cycles with the same inputs, have the same Ranger after the cycle;
two that agree on everything but the Ranger and the sticky bits have the same audio state after it. -/
def Obligations.RangerAndAudioAreIndependent : Prop :=
  ∀ (s t s' t' : State) (i : CycleInput), s.cfg = t.cfg → stepOn i s = .next s' → stepOn i t = .next t' →
    (s.tmo = t.tmo → s.rng = t.rng → s'.rng = t'.rng ∧ s'.tmo = t'.tmo) ∧
    (s.fv = t.fv → s.mv = t.mv → s.dac = t.dac → s.seq = t.seq → s.play = t.play → s.adc = t.adc →
      s'.fv = t'.fv ∧ s'.mv = t'.mv ∧ s'.dac = t'.dac ∧ s'.seq = t'.seq ∧ s'.play = t'.play ∧ s'.adc = t'.adc)

/-! ### The NoteMapper -/

/-- R78: the first-match chain equals the closed form for every distance, and at most one band contains it. -/
def Obligations.NoteForIsClosedForm : Prop :=
  ∀ (p : Params) (q : BitVec 32),
    noteFor p q =
      (if q.toNat < p.bandMin.toNat ∨ p.bandMin.toNat + 8 * 327680 ≤ q.toNat then 8#4
       else BitVec.ofNat 4 (7 - (q.toNat - p.bandMin.toNat) / 327680)) ∧
    ∀ j k, j < 8 → k < 8 → bandLow p j ≤ q.toNat → q.toNat < bandHigh p j → bandLow p k ≤ q.toNat →
      q.toNat < bandHigh p k → j = k

/-- 95_test_vectors.md S2 to S4, for every lower band edge the source's examples admit ((9.9, 11] cm, log entry 14): 14.9 cm is
high-c, 49.9 cm is C, 51 cm is silence. -/
def Obligations.SourceExamplesOfNoteFor : Prop :=
  ∀ p : Params, 648807 ≤ p.bandMin.toNat → p.bandMin.toNat ≤ 720896 →
    noteFor p 976486#32 = 7#4 ∧ noteFor p 3270246#32 = 0#4 ∧ noteFor p 3342336#32 = 8#4

/-! ### The ToneSynthesizer -/

/-- R86, R87, R91 and 70_reset_and_hazards.md section 4: a freshly loaded foreground voice with R repeats and period P, in a run
without reset that stays ARMED (REARMs and other commands included, so that the note may be longer than the idle interval), plays
for exactly 100 R P + 1 cycles: it is active until then, and in the last of them it ends with SYN_DONE set. -/
def Obligations.ForegroundNoteLastsItsTime : Prop :=
  ∀ (s : State) (is : List CycleInput), s.cfg.Valid → s.fv.act = true →
    s.fv.idx = 0#7 → s.fv.wait = 0#16 → 1 ≤ s.fv.reps.toNat → 1 ≤ s.fv.per.toNat →
    (∀ i ∈ is, i.live) → EachCycle (fun w _ => w.seq.st = .armed) is s →
    is.length ≤ 100 * s.fv.reps.toNat * s.fv.per.toNat + 1 →
    ∃ t, runOn is s = .next t ∧
      (is.length ≤ 100 * s.fv.reps.toNat * s.fv.per.toNat → t.fv.act = true) ∧
      (is.length = 100 * s.fv.reps.toNat * s.fv.per.toNat + 1 →
        t.fv = { s.fv with act := false, reps := 0#32 } ∧ t.flag .synDone = true)

/-- R86, R88 to R90 and 70_reset_and_hazards.md section 4: a freshly loaded voice with R repeats and period P writes sample k,
0 to 100 R - 1, in the cycle that follows k P cycles: then DAC_WE = 1 and DAC_OUT = Sample(k mod 100, DIV); in the next P - 1
cycles DAC_WE = 0 and DAC_OUT holds it. FV does so in a run that stays ARMED with MV idle (no run from reset is ARMED with MV
active, State.Inv); MV in any run, from FIRING. -/
def Obligations.VoiceWritesOneSamplePerPeriod : Prop :=
  ∀ (s : State) (is : List CycleInput) (k j : Nat), s.cfg.Valid → (∀ i ∈ is, i.live) →
    (s.fv.act = true → s.fv.idx = 0#7 → s.fv.wait = 0#16 → s.mv.act = false →
      EachCycle (fun w _ => w.seq.st = .armed) is s →
      k < 100 * s.fv.reps.toNat → j < s.fv.per.toNat → is.length = k * s.fv.per.toNat + j + 1 →
      ∃ t, runOn is s = .next t ∧ t.fv.act = true ∧
        t.dac = { out := sample s.cfg (BitVec.ofNat 7 (k % 100)) s.fv.div, we := decide (j = 0) }) ∧
    (s.mv.act = true → s.mv.idx = 0#7 → s.mv.wait = 0#16 → s.seq.st = .firing →
      k < 100 * s.mv.reps.toNat → j < s.mv.per.toNat → is.length = k * s.mv.per.toNat + j + 1 →
      ∃ t, runOn is s = .next t ∧ t.mv.act = true ∧ t.seq = s.seq ∧
        t.dac = { out := sample s.cfg (BitVec.ofNat 7 (k % 100)) s.mv.div, we := decide (j = 0) })

/-- R92: the sample of index i and divisor div, an exact integer clamped to the DAC's range; at the reference parameters no
clamping occurs, LOUD gives 1 to 4095 and SOFT 1025 to 3071. -/
def Obligations.SampleIsClampedScaledAmplitude : Prop :=
  (∀ (p : Params) (i : BitVec 7) (h : i.toNat < 100) (div : VolLevel), p.Valid → div ≠ .mute →
    ((sample p i div).toNat : Int) =
      min (max ((p.dacCenter.toNat : Int) + Int.tdiv (p.lut[i.toNat]).toInt (if div = .loud then 1 else 2)) 0)
        (2 ^ p.dacW - 1)) ∧
  (∀ i : Fin 100,
    ((sample Params.reference (BitVec.ofNat 7 i.val) .loud).toNat : Int) = 2048 + (lutReference[i]).toInt ∧
    1 ≤ (sample Params.reference (BitVec.ofNat 7 i.val) .loud).toNat ∧
    (sample Params.reference (BitVec.ofNat 7 i.val) .loud).toNat ≤ 4095 ∧
    ((sample Params.reference (BitVec.ofNat 7 i.val) .soft).toNat : Int) = 2048 + Int.tdiv (lutReference[i]).toInt 2 ∧
    1025 ≤ (sample Params.reference (BitVec.ofNat 7 i.val) .soft).toNat ∧
    (sample Params.reference (BitVec.ofNat 7 i.val) .soft).toNat ≤ 3071)

/-- R88, R90: after a cycle DAC_WE is 1 exactly when a stepping voice starts a slot with repeats left, and then DAC_OUT is its
sample; otherwise DAC_OUT keeps its value. At most one voice steps (R89), by the invariant. -/
def Obligations.DacChangesOnlyBySamples : Prop :=
  ∀ s : State, s.Inv → s.input.rst = false →
    ∃ t, step s = .next t ∧
      (s.fv.act = true → s.seq.st = .armed → s.fv.wait = 0#16 → s.fv.reps ≠ 0#32 →
        t.dac = { out := sample s.cfg s.fv.idx s.fv.div, we := true }) ∧
      (s.mv.act = true → s.mv.wait = 0#16 → s.mv.reps ≠ 0#32 →
        t.dac = { out := sample s.cfg s.mv.idx s.mv.div, we := true }) ∧
      (¬ (s.fv.act = true ∧ s.seq.st = .armed ∧ s.fv.wait = 0#16 ∧ s.fv.reps ≠ 0#32) →
        ¬ (s.mv.act = true ∧ s.mv.wait = 0#16 ∧ s.mv.reps ≠ 0#32) →
        t.dac = { out := s.dac.out, we := false })

/-- R83 and 95_test_vectors.md S6: with VLEVEL = MUTE, no voice playing and no ADC event, no run of ARMED or FIRING cycles
writes a sample, whatever the host plays. -/
def Obligations.MuteWritesNoSample : Prop :=
  ∀ (s : State) (is : List CycleInput), s.cfg.Valid → s.adc.vlevel = .mute → s.adc.pend = false →
    s.fv.act = false → s.mv.act = false → s.dac.we = false → (∀ i ∈ is, i.live ∧ i.adcDone = false) →
    ∃ t, runOn is s = .next t ∧ t.dac = s.dac ∧ t.fv.act = false ∧ t.mv.act = false

/-- R10, R25, R81 to R89, R103, R128, R129, R145: both voices after every cycle without reset, all their fields. FV: kept while
FIRING; while ARMED and active it takes the step of R88; while ARMED and idle a PLAY that sounds loads it, the expiry cycle
included, and it has not yet stepped; else it is kept. MV: active it takes the step of R88, and while FIRING the sequencer and
PLAYST then keep their values; idle it is loaded by a melody note that sounds; else it is kept. -/
def Obligations.ForegroundFrozenWhileFiring : Prop :=
  ∀ s : State, s.cfg.Valid → s.input.rst = false →
    ∃ t, step s = .next t ∧
      (s.seq.st = .firing → t.fv = s.fv) ∧
      (s.seq.st = .armed → s.fv.act = true → s.fv.StepsTo t.fv) ∧
      (s.seq.st = .armed → s.fv.act = false →
        (∀ n oct durMs, PlaySounds s.input s n oct durMs → t.fv = loadedVoice s.cfg n oct s.adc.vlevel durMs) ∧
        ((∀ n oct durMs, ¬ PlaySounds s.input s n oct durMs) → t.fv = s.fv)) ∧
      (s.mv.act = true → s.mv.StepsTo t.mv ∧ (s.seq.st = .firing → t.seq = s.seq ∧ t.play = s.play)) ∧
      (s.mv.act = false →
        (∀ n : Fin 8, s.seq.st = .firing → s.seq.melIdx = BitVec.ofNat 4 n.val →
          t.mv = if s.adc.vlevel ≠ .mute ∧ 1 ≤ repsNat s.cfg n s.cfg.melOct s.cfg.melDurMs then
              loadedVoice s.cfg n s.cfg.melOct s.adc.vlevel s.cfg.melDurMs
            else s.mv) ∧
        (s.seq.st = .armed ∨ 8 ≤ s.seq.melIdx.toNat → t.mv = s.mv))

/-! ### The VolumeSampler -/

/-- R24, R95 to R98: the VolumeSampler after every cycle without reset, all four fields. A strobe sets ADC_PEND and latches
ADC_DATA (the low ADC_W bits of the model's 16-bit carrier of the port, log entry 8); without one ADC_PEND is 0 and ADC_DATA is kept.
With ADC_PEND = 1 ADC_RAW becomes ADC_DATA, VLEVEL LOUD below 500, SOFT from 500 to 3500, MUTE above, and VOL_UPD is set; with
ADC_PEND = 0 ADC_RAW and VLEVEL are kept. So an ADC event is handled in the cycle after its strobe. -/
def Obligations.AdcEventSetsVolume : Prop :=
  (∀ (s : State) (i : CycleInput), s.cfg.Valid → i.live →
    ∃ t, stepOn i s = .next t ∧ t.adc.pend = i.adcDone ∧
      (i.adcDone = true → t.adc.data.toNat = i.adcData.toNat % 2 ^ s.cfg.adcW) ∧
      (i.adcDone = false → t.adc.data = s.adc.data) ∧
      (s.adc.pend = true →
        t.adc.raw = s.adc.data ∧ t.flag .volUpd = true ∧
        (s.adc.data.toNat < 500 → t.adc.vlevel = .loud) ∧
        (500 ≤ s.adc.data.toNat → s.adc.data.toNat ≤ 3500 → t.adc.vlevel = .soft) ∧
        (3500 < s.adc.data.toNat → t.adc.vlevel = .mute)) ∧
      (s.adc.pend = false → t.adc.raw = s.adc.raw ∧ t.adc.vlevel = s.adc.vlevel)) ∧
  ∀ (s : State) (i j : CycleInput), s.cfg.Valid → i.live → j.live → i.adcDone = true →
    i.adcData.toNat < 2 ^ s.cfg.adcW →
    ∃ t, runOn [i, j] s = .next t ∧ t.adc.raw = i.adcData ∧ t.adc.pend = j.adcDone ∧ t.flag .volUpd = true ∧
      (i.adcData.toNat < 500 → t.adc.vlevel = .loud) ∧
      (500 ≤ i.adcData.toNat → i.adcData.toNat ≤ 3500 → t.adc.vlevel = .soft) ∧
      (3500 < i.adcData.toNat → t.adc.vlevel = .mute)

/-! ### The IdleSequencer -/

/-- R101: without a REARM the counter goes down by one a cycle, and the melody starts in the IDLE_CNT-th cycle and not
before. -/
def Obligations.IdleTimerExpiresOnTime : Prop :=
  ∀ (s : State) (is : List CycleInput), s.cfg.Valid → s.seq.st = .armed → 1 ≤ s.seq.idleCnt.toNat →
    (∀ i ∈ is, i.live ∧ i.rearms = false) → is.length ≤ s.seq.idleCnt.toNat →
    ∃ t, runOn is s = .next t ∧
      (is.length < s.seq.idleCnt.toNat →
        t.seq = { s.seq with idleCnt := BitVec.ofNat 32 (s.seq.idleCnt.toNat - is.length) }) ∧
      (is.length = s.seq.idleCnt.toNat →
        t.seq.st = .firing ∧ t.seq.idleCnt = 0#32 ∧ t.seq.melIdx = 0#4 ∧ t.flag .seqStart = true)

/-- R102, R128: in the expiry cycle the snapshot is PlaybackState, or the note and octave of a PLAY accepted in the same
cycle, which stays CUR_NOTE; CUR_OCT is forced to MEL_OCT. -/
def Obligations.ExpirySavesPlaybackState : Prop :=
  ∀ (s : State) (ps : PlayState), s.cfg.Valid → s.input.rst = false → s.seq.st = .armed → s.seq.idleCnt.toNat ≤ 1 →
    s.input.rearms = false → ps = (acceptedPlay s.input s).getD s.play →
    ∃ t, step s = .next t ∧ t.seq = ⟨.firing, 0#32, 0#4, ps.note, ps.oct⟩ ∧ t.play = ⟨ps.note, s.cfg.melOct⟩ ∧
      t.flag .seqStart = true

/-- R100, R112, R145: a REARM wins in the expiry cycle: the counter reloads, no melody starts, PLAYST stays. -/
def Obligations.RearmWinsOverExpiry : Prop :=
  ∀ s : State, s.cfg.Valid → s.input.rst = false → s.seq.st = .armed → s.input.rearms = true →
    ∃ t, step s = .next t ∧ t.seq = { s.seq with idleCnt := s.cfg.idleTicks } ∧
      t.flag .seqStart = s.flag .seqStart ∧ t.play = s.play

/-- R100 and 95_test_vectors.md S7: REARMs in two cycles in a row give the state that the second one alone gives. -/
def Obligations.RearmIsIdempotent : Prop :=
  ∀ (s : State) (i j : CycleInput), i.live → i.rearms = true → j.rearms = true → s.seq.st = .armed →
    2 ≤ s.seq.idleCnt.toNat →
    runOn [i, j] s = runOn [i.noAccess, j] s

/-- R103: a FIRING cycle with MV idle and MEL_IDX = n below 8 sets CUR_NOTE to n and MEL_IDX to n + 1, and loads MV with
the note at MEL_OCT and the volume level of this cycle, unless the note is a no-op. -/
def Obligations.MelodyNoteLoadsMelodyVoice : Prop :=
  ∀ (s : State) (n : Fin 8), s.cfg.Valid → s.input.rst = false → s.seq.st = .firing → s.mv.act = false →
    s.seq.melIdx = BitVec.ofNat 4 n.val →
    ∃ t, step s = .next t ∧
      t.seq = { s.seq with melIdx := BitVec.ofNat 4 (n.val + 1) } ∧
      t.play = { s.play with note := BitVec.ofNat 4 n.val } ∧
      t.mv =
        (if s.adc.vlevel ≠ .mute ∧ 1 ≤ repsNat s.cfg n s.cfg.melOct s.cfg.melDurMs then
          { act := true, note := BitVec.ofNat 4 n.val, oct := s.cfg.melOct, div := s.adc.vlevel,
            reps := BitVec.ofNat 32 (repsNat s.cfg n s.cfg.melOct s.cfg.melDurMs), idx := 0#7, wait := 0#16,
            per := BitVec.ofNat 16 (periodNat s.cfg n s.cfg.melOct) }
        else s.mv)

/-- R104, R130: a FIRING cycle with MV idle and MEL_IDX = 8 restores PLAYST from the snapshot, re-arms the timer with a full
interval, sets SEQ_DONE, and keeps the snapshot. -/
def Obligations.MelodyExitRestoresPlayback : Prop :=
  ∀ s : State, s.cfg.Valid → s.input.rst = false → s.seq.st = .firing → s.mv.act = false → s.seq.melIdx = 8#4 →
    ∃ t, step s = .next t ∧ t.play = { note := s.seq.snapNote, oct := s.seq.snapOct } ∧
      t.seq = ⟨.armed, s.cfg.idleTicks, 0#4, s.seq.snapNote, s.seq.snapOct⟩ ∧ t.flag .seqDone = true

/-- R105: for every PlaybackState of the expiry cycle, and every run that stays FIRING until it returns to ARMED, PLAYST after
the exit is the snapshot: that pair, or the pair of a PLAY accepted in the expiry cycle. -/
def Obligations.MelodyRoundTripRestoresPlayback : Prop :=
  ∀ (s0 s u t : State) (i0 i : CycleInput) (is : List CycleInput),
    s0.seq.st = .armed → stepOn i0 s0 = .next s → s.seq.st = .firing →
    (∀ j ∈ is, j.live) → i.live →
    (∀ k w, k ≤ is.length → runOn (is.take k) s = .next w → w.seq.st = .firing) →
    runOn is s = .next u → stepOn i u = .next t → t.seq.st = .armed →
    t.play = { note := s.seq.snapNote, oct := s.seq.snapOct } ∧ t.play = (acceptedPlay i0 s0).getD s0.play

/-- R89, R129: in a run that is FIRING until its last cycle FV keeps every field, so that after the melody's exit it goes on
with the WAIT, IDX and REPS it had. -/
def Obligations.ForegroundResumesAfterMelody : Prop :=
  ∀ (s t : State) (is : List CycleInput),
    (∀ j ∈ is, j.live) → (∀ k w, k < is.length → runOn (is.take k) s = .next w → w.seq.st = .firing) →
    runOn is s = .next t → t.fv = s.fv

/-- R103, R107: while FIRING, a melody note that is not a no-op takes exactly L_n = 1 + (100 R_n P_n + 1) cycles, whatever
the inputs: MV plays in all of them but the first, and then the sequencer is ready for the next note. -/
def Obligations.MelodyNoteTakesItsCycles : Prop :=
  ∀ (s : State) (is : List CycleInput) (n : Fin 8), s.cfg.Valid → s.seq.st = .firing → s.mv.act = false →
    s.seq.melIdx = BitVec.ofNat 4 n.val → s.adc.vlevel ≠ .mute →
    1 ≤ repsNat s.cfg n s.cfg.melOct s.cfg.melDurMs → (∀ i ∈ is, i.live) → 1 ≤ is.length →
    is.length ≤ melodyNoteCycles s.cfg s.adc.vlevel n →
    ∃ t, runOn is s = .next t ∧
      t.seq = { s.seq with melIdx := BitVec.ofNat 4 (n.val + 1) } ∧
      (t.mv.act = true ↔ is.length < melodyNoteCycles s.cfg s.adc.vlevel n)

/-- R107: a melody whose volume level stays d lasts exactly the sum of L_0 to L_7 and the exit cycle: FIRING until then, ARMED
with PLAYST restored after it. At the reference parameters the sum is 63761616 cycles, and 8 when muted. -/
def Obligations.MelodyLength : Prop :=
  (∀ (s : State) (is : List CycleInput), s.cfg.Valid → s.seq.st = .firing → s.mv.act = false →
    s.seq.melIdx = 0#4 → s.adc.pend = false → (∀ i ∈ is, i.live ∧ i.adcDone = false) →
    is.length ≤ melodyCycles s.cfg s.adc.vlevel + 1 →
    ∃ t, runOn is s = .next t ∧
      (is.length ≤ melodyCycles s.cfg s.adc.vlevel → t.seq.st = .firing) ∧
      (is.length = melodyCycles s.cfg s.adc.vlevel + 1 →
        t.seq.st = .armed ∧ t.play = { note := s.seq.snapNote, oct := s.seq.snapOct })) ∧
  melodyCycles Params.reference .loud = 63761616 ∧ melodyCycles Params.reference .soft = 63761616 ∧
  melodyCycles Params.reference .mute = 8

/-! ### The octave select -/

/-- R110: after a cycle OCT_SEL is 1 for btn1 alone, 2 for btn2 alone, INACTIVE otherwise; BTN1_Q and BTN2_Q are the levels
sampled; the indicators show OCT_SEL, both off when inactive. -/
def Obligations.OctaveFollowsButtons : Prop :=
  ∀ s : State, s.cfg.Valid → s.input.rst = false →
    ∃ t, step s = .next t ∧ t.oct.btn1Q = s.input.btn1 ∧ t.oct.btn2Q = s.input.btn2 ∧
      (t.oct.sel = 1#2 ↔ s.input.btn1 = true ∧ s.input.btn2 = false) ∧
      (t.oct.sel = 2#2 ↔ s.input.btn1 = false ∧ s.input.btn2 = true) ∧
      (t.oct.sel = 0#2 ↔ s.input.btn1 = s.input.btn2) ∧
      (t.outputs.led1 = true ↔ t.oct.sel = 1#2) ∧ (t.outputs.led2 = true ↔ t.oct.sel = 2#2)
end

