-- ==== Sys2Proof/Laws/State.lean ====
section
/-! SUPPORT. One lemma per field per named update of the state, true by rfl. -/

namespace Sys2Proof.Machine

@[simp] theorem State.raise_cfg (s : State) (c : Cond) : (s.raise c).cfg = s.cfg := rfl
@[simp] theorem State.raise_script (s : State) (c : Cond) : (s.raise c).script = s.script := rfl
@[simp] theorem State.raise_cycle (s : State) (c : Cond) : (s.raise c).cycle = s.cycle := rfl
@[simp] theorem State.raise_sticky (s : State) (c : Cond) : (s.raise c).sticky = s.sticky ||| c.mask := rfl
@[simp] theorem State.raise_irqEn (s : State) (c : Cond) : (s.raise c).irqEn = s.irqEn := rfl
@[simp] theorem State.raise_tmo (s : State) (c : Cond) : (s.raise c).tmo = s.tmo := rfl
@[simp] theorem State.raise_rng (s : State) (c : Cond) : (s.raise c).rng = s.rng := rfl
@[simp] theorem State.raise_adc (s : State) (c : Cond) : (s.raise c).adc = s.adc := rfl
@[simp] theorem State.raise_fv (s : State) (c : Cond) : (s.raise c).fv = s.fv := rfl
@[simp] theorem State.raise_mv (s : State) (c : Cond) : (s.raise c).mv = s.mv := rfl
@[simp] theorem State.raise_dac (s : State) (c : Cond) : (s.raise c).dac = s.dac := rfl
@[simp] theorem State.raise_seq (s : State) (c : Cond) : (s.raise c).seq = s.seq := rfl
@[simp] theorem State.raise_play (s : State) (c : Cond) : (s.raise c).play = s.play := rfl
@[simp] theorem State.raise_oct (s : State) (c : Cond) : (s.raise c).oct = s.oct := rfl

@[simp] theorem State.clearStatus_cfg (s : State) (v : Word) : (s.clearStatus v).cfg = s.cfg := rfl
@[simp] theorem State.clearStatus_script (s : State) (v : Word) : (s.clearStatus v).script = s.script := rfl
@[simp] theorem State.clearStatus_cycle (s : State) (v : Word) : (s.clearStatus v).cycle = s.cycle := rfl
@[simp] theorem State.clearStatus_sticky (s : State) (v : Word) : (s.clearStatus v).sticky = s.sticky &&& ~~~ stickyField v := rfl
@[simp] theorem State.clearStatus_irqEn (s : State) (v : Word) : (s.clearStatus v).irqEn = s.irqEn := rfl
@[simp] theorem State.clearStatus_tmo (s : State) (v : Word) : (s.clearStatus v).tmo = s.tmo := rfl
@[simp] theorem State.clearStatus_rng (s : State) (v : Word) : (s.clearStatus v).rng = s.rng := rfl
@[simp] theorem State.clearStatus_adc (s : State) (v : Word) : (s.clearStatus v).adc = s.adc := rfl
@[simp] theorem State.clearStatus_fv (s : State) (v : Word) : (s.clearStatus v).fv = s.fv := rfl
@[simp] theorem State.clearStatus_mv (s : State) (v : Word) : (s.clearStatus v).mv = s.mv := rfl
@[simp] theorem State.clearStatus_dac (s : State) (v : Word) : (s.clearStatus v).dac = s.dac := rfl
@[simp] theorem State.clearStatus_seq (s : State) (v : Word) : (s.clearStatus v).seq = s.seq := rfl
@[simp] theorem State.clearStatus_play (s : State) (v : Word) : (s.clearStatus v).play = s.play := rfl
@[simp] theorem State.clearStatus_oct (s : State) (v : Word) : (s.clearStatus v).oct = s.oct := rfl

@[simp] theorem State.writeIrqEn_cfg (s : State) (v : Word) : (s.writeIrqEn v).cfg = s.cfg := rfl
@[simp] theorem State.writeIrqEn_script (s : State) (v : Word) : (s.writeIrqEn v).script = s.script := rfl
@[simp] theorem State.writeIrqEn_cycle (s : State) (v : Word) : (s.writeIrqEn v).cycle = s.cycle := rfl
@[simp] theorem State.writeIrqEn_sticky (s : State) (v : Word) : (s.writeIrqEn v).sticky = s.sticky := rfl
@[simp] theorem State.writeIrqEn_irqEn (s : State) (v : Word) : (s.writeIrqEn v).irqEn = stickyField v := rfl
@[simp] theorem State.writeIrqEn_tmo (s : State) (v : Word) : (s.writeIrqEn v).tmo = s.tmo := rfl
@[simp] theorem State.writeIrqEn_rng (s : State) (v : Word) : (s.writeIrqEn v).rng = s.rng := rfl
@[simp] theorem State.writeIrqEn_adc (s : State) (v : Word) : (s.writeIrqEn v).adc = s.adc := rfl
@[simp] theorem State.writeIrqEn_fv (s : State) (v : Word) : (s.writeIrqEn v).fv = s.fv := rfl
@[simp] theorem State.writeIrqEn_mv (s : State) (v : Word) : (s.writeIrqEn v).mv = s.mv := rfl
@[simp] theorem State.writeIrqEn_dac (s : State) (v : Word) : (s.writeIrqEn v).dac = s.dac := rfl
@[simp] theorem State.writeIrqEn_seq (s : State) (v : Word) : (s.writeIrqEn v).seq = s.seq := rfl
@[simp] theorem State.writeIrqEn_play (s : State) (v : Word) : (s.writeIrqEn v).play = s.play := rfl
@[simp] theorem State.writeIrqEn_oct (s : State) (v : Word) : (s.writeIrqEn v).oct = s.oct := rfl

@[simp] theorem State.writeTmo_cfg (s : State) (v : Word) : (s.writeTmo v).cfg = s.cfg := rfl
@[simp] theorem State.writeTmo_script (s : State) (v : Word) : (s.writeTmo v).script = s.script := rfl
@[simp] theorem State.writeTmo_cycle (s : State) (v : Word) : (s.writeTmo v).cycle = s.cycle := rfl
@[simp] theorem State.writeTmo_sticky (s : State) (v : Word) : (s.writeTmo v).sticky = s.sticky := rfl
@[simp] theorem State.writeTmo_irqEn (s : State) (v : Word) : (s.writeTmo v).irqEn = s.irqEn := rfl
@[simp] theorem State.writeTmo_tmo (s : State) (v : Word) : (s.writeTmo v).tmo = v := rfl
@[simp] theorem State.writeTmo_rng (s : State) (v : Word) : (s.writeTmo v).rng = s.rng := rfl
@[simp] theorem State.writeTmo_adc (s : State) (v : Word) : (s.writeTmo v).adc = s.adc := rfl
@[simp] theorem State.writeTmo_fv (s : State) (v : Word) : (s.writeTmo v).fv = s.fv := rfl
@[simp] theorem State.writeTmo_mv (s : State) (v : Word) : (s.writeTmo v).mv = s.mv := rfl
@[simp] theorem State.writeTmo_dac (s : State) (v : Word) : (s.writeTmo v).dac = s.dac := rfl
@[simp] theorem State.writeTmo_seq (s : State) (v : Word) : (s.writeTmo v).seq = s.seq := rfl
@[simp] theorem State.writeTmo_play (s : State) (v : Word) : (s.writeTmo v).play = s.play := rfl
@[simp] theorem State.writeTmo_oct (s : State) (v : Word) : (s.writeTmo v).oct = s.oct := rfl

@[simp] theorem State.recordPlayback_cfg (s : State) (n : NoteCode) (o : OctCode) : (s.recordPlayback n o).cfg = s.cfg := rfl
@[simp] theorem State.recordPlayback_script (s : State) (n : NoteCode) (o : OctCode) : (s.recordPlayback n o).script = s.script := rfl
@[simp] theorem State.recordPlayback_cycle (s : State) (n : NoteCode) (o : OctCode) : (s.recordPlayback n o).cycle = s.cycle := rfl
@[simp] theorem State.recordPlayback_sticky (s : State) (n : NoteCode) (o : OctCode) : (s.recordPlayback n o).sticky = s.sticky := rfl
@[simp] theorem State.recordPlayback_irqEn (s : State) (n : NoteCode) (o : OctCode) : (s.recordPlayback n o).irqEn = s.irqEn := rfl
@[simp] theorem State.recordPlayback_tmo (s : State) (n : NoteCode) (o : OctCode) : (s.recordPlayback n o).tmo = s.tmo := rfl
@[simp] theorem State.recordPlayback_rng (s : State) (n : NoteCode) (o : OctCode) : (s.recordPlayback n o).rng = s.rng := rfl
@[simp] theorem State.recordPlayback_adc (s : State) (n : NoteCode) (o : OctCode) : (s.recordPlayback n o).adc = s.adc := rfl
@[simp] theorem State.recordPlayback_fv (s : State) (n : NoteCode) (o : OctCode) : (s.recordPlayback n o).fv = s.fv := rfl
@[simp] theorem State.recordPlayback_mv (s : State) (n : NoteCode) (o : OctCode) : (s.recordPlayback n o).mv = s.mv := rfl
@[simp] theorem State.recordPlayback_dac (s : State) (n : NoteCode) (o : OctCode) : (s.recordPlayback n o).dac = s.dac := rfl
@[simp] theorem State.recordPlayback_seq (s : State) (n : NoteCode) (o : OctCode) : (s.recordPlayback n o).seq = s.seq := rfl
@[simp] theorem State.recordPlayback_play (s : State) (n : NoteCode) (o : OctCode) : (s.recordPlayback n o).play = { note := n, oct := o } := rfl
@[simp] theorem State.recordPlayback_oct (s : State) (n : NoteCode) (o : OctCode) : (s.recordPlayback n o).oct = s.oct := rfl

@[simp] theorem State.reloadIdle_cfg (s : State) : (s.reloadIdle).cfg = s.cfg := rfl
@[simp] theorem State.reloadIdle_script (s : State) : (s.reloadIdle).script = s.script := rfl
@[simp] theorem State.reloadIdle_cycle (s : State) : (s.reloadIdle).cycle = s.cycle := rfl
@[simp] theorem State.reloadIdle_sticky (s : State) : (s.reloadIdle).sticky = s.sticky := rfl
@[simp] theorem State.reloadIdle_irqEn (s : State) : (s.reloadIdle).irqEn = s.irqEn := rfl
@[simp] theorem State.reloadIdle_tmo (s : State) : (s.reloadIdle).tmo = s.tmo := rfl
@[simp] theorem State.reloadIdle_rng (s : State) : (s.reloadIdle).rng = s.rng := rfl
@[simp] theorem State.reloadIdle_adc (s : State) : (s.reloadIdle).adc = s.adc := rfl
@[simp] theorem State.reloadIdle_fv (s : State) : (s.reloadIdle).fv = s.fv := rfl
@[simp] theorem State.reloadIdle_mv (s : State) : (s.reloadIdle).mv = s.mv := rfl
@[simp] theorem State.reloadIdle_dac (s : State) : (s.reloadIdle).dac = s.dac := rfl
@[simp] theorem State.reloadIdle_seq (s : State) : (s.reloadIdle).seq = { s.seq with idleCnt := s.cfg.idleTicks } := rfl
@[simp] theorem State.reloadIdle_play (s : State) : (s.reloadIdle).play = s.play := rfl
@[simp] theorem State.reloadIdle_oct (s : State) : (s.reloadIdle).oct = s.oct := rfl

@[simp] theorem State.countIdle_cfg (s : State) : (s.countIdle).cfg = s.cfg := rfl
@[simp] theorem State.countIdle_script (s : State) : (s.countIdle).script = s.script := rfl
@[simp] theorem State.countIdle_cycle (s : State) : (s.countIdle).cycle = s.cycle := rfl
@[simp] theorem State.countIdle_sticky (s : State) : (s.countIdle).sticky = s.sticky := rfl
@[simp] theorem State.countIdle_irqEn (s : State) : (s.countIdle).irqEn = s.irqEn := rfl
@[simp] theorem State.countIdle_tmo (s : State) : (s.countIdle).tmo = s.tmo := rfl
@[simp] theorem State.countIdle_rng (s : State) : (s.countIdle).rng = s.rng := rfl
@[simp] theorem State.countIdle_adc (s : State) : (s.countIdle).adc = s.adc := rfl
@[simp] theorem State.countIdle_fv (s : State) : (s.countIdle).fv = s.fv := rfl
@[simp] theorem State.countIdle_mv (s : State) : (s.countIdle).mv = s.mv := rfl
@[simp] theorem State.countIdle_dac (s : State) : (s.countIdle).dac = s.dac := rfl
@[simp] theorem State.countIdle_seq (s : State) : (s.countIdle).seq = { s.seq with idleCnt := s.seq.idleCnt - 1#32 } := rfl
@[simp] theorem State.countIdle_play (s : State) : (s.countIdle).play = s.play := rfl
@[simp] theorem State.countIdle_oct (s : State) : (s.countIdle).oct = s.oct := rfl

@[simp] theorem State.melodyNote_cfg (s : State) : (s.melodyNote).cfg = s.cfg := rfl
@[simp] theorem State.melodyNote_script (s : State) : (s.melodyNote).script = s.script := rfl
@[simp] theorem State.melodyNote_cycle (s : State) : (s.melodyNote).cycle = s.cycle := rfl
@[simp] theorem State.melodyNote_sticky (s : State) : (s.melodyNote).sticky = s.sticky := rfl
@[simp] theorem State.melodyNote_irqEn (s : State) : (s.melodyNote).irqEn = s.irqEn := rfl
@[simp] theorem State.melodyNote_tmo (s : State) : (s.melodyNote).tmo = s.tmo := rfl
@[simp] theorem State.melodyNote_rng (s : State) : (s.melodyNote).rng = s.rng := rfl
@[simp] theorem State.melodyNote_adc (s : State) : (s.melodyNote).adc = s.adc := rfl
@[simp] theorem State.melodyNote_fv (s : State) : (s.melodyNote).fv = s.fv := rfl
@[simp] theorem State.melodyNote_mv (s : State) : (s.melodyNote).mv = s.mv := rfl
@[simp] theorem State.melodyNote_dac (s : State) : (s.melodyNote).dac = s.dac := rfl
@[simp] theorem State.melodyNote_seq (s : State) : (s.melodyNote).seq = { s.seq with melIdx := s.seq.melIdx + 1#4 } := rfl
@[simp] theorem State.melodyNote_play (s : State) : (s.melodyNote).play = { s.play with note := s.seq.melIdx } := rfl
@[simp] theorem State.melodyNote_oct (s : State) : (s.melodyNote).oct = s.oct := rfl

@[simp] theorem State.melodyEntry_cfg (s : State) : (s.melodyEntry).cfg = s.cfg := rfl
@[simp] theorem State.melodyEntry_script (s : State) : (s.melodyEntry).script = s.script := rfl
@[simp] theorem State.melodyEntry_cycle (s : State) : (s.melodyEntry).cycle = s.cycle := rfl
@[simp] theorem State.melodyEntry_sticky (s : State) : (s.melodyEntry).sticky = s.sticky ||| Cond.seqStart.mask := rfl
@[simp] theorem State.melodyEntry_irqEn (s : State) : (s.melodyEntry).irqEn = s.irqEn := rfl
@[simp] theorem State.melodyEntry_tmo (s : State) : (s.melodyEntry).tmo = s.tmo := rfl
@[simp] theorem State.melodyEntry_rng (s : State) : (s.melodyEntry).rng = s.rng := rfl
@[simp] theorem State.melodyEntry_adc (s : State) : (s.melodyEntry).adc = s.adc := rfl
@[simp] theorem State.melodyEntry_fv (s : State) : (s.melodyEntry).fv = s.fv := rfl
@[simp] theorem State.melodyEntry_mv (s : State) : (s.melodyEntry).mv = s.mv := rfl
@[simp] theorem State.melodyEntry_dac (s : State) : (s.melodyEntry).dac = s.dac := rfl
@[simp] theorem State.melodyEntry_seq (s : State) : (s.melodyEntry).seq = { st := .firing, idleCnt := 0#32, melIdx := 0#4, snapNote := s.play.note, snapOct := s.play.oct } := rfl
@[simp] theorem State.melodyEntry_play (s : State) : (s.melodyEntry).play = { note := s.play.note, oct := s.cfg.melOct } := rfl
@[simp] theorem State.melodyEntry_oct (s : State) : (s.melodyEntry).oct = s.oct := rfl

@[simp] theorem State.melodyExit_cfg (s : State) : (s.melodyExit).cfg = s.cfg := rfl
@[simp] theorem State.melodyExit_script (s : State) : (s.melodyExit).script = s.script := rfl
@[simp] theorem State.melodyExit_cycle (s : State) : (s.melodyExit).cycle = s.cycle := rfl
@[simp] theorem State.melodyExit_sticky (s : State) : (s.melodyExit).sticky = s.sticky ||| Cond.seqDone.mask := rfl
@[simp] theorem State.melodyExit_irqEn (s : State) : (s.melodyExit).irqEn = s.irqEn := rfl
@[simp] theorem State.melodyExit_tmo (s : State) : (s.melodyExit).tmo = s.tmo := rfl
@[simp] theorem State.melodyExit_rng (s : State) : (s.melodyExit).rng = s.rng := rfl
@[simp] theorem State.melodyExit_adc (s : State) : (s.melodyExit).adc = s.adc := rfl
@[simp] theorem State.melodyExit_fv (s : State) : (s.melodyExit).fv = s.fv := rfl
@[simp] theorem State.melodyExit_mv (s : State) : (s.melodyExit).mv = s.mv := rfl
@[simp] theorem State.melodyExit_dac (s : State) : (s.melodyExit).dac = s.dac := rfl
@[simp] theorem State.melodyExit_seq (s : State) : (s.melodyExit).seq = { s.seq with st := .armed, idleCnt := s.cfg.idleTicks, melIdx := 0#4 } := rfl
@[simp] theorem State.melodyExit_play (s : State) : (s.melodyExit).play = { note := s.seq.snapNote, oct := s.seq.snapOct } := rfl
@[simp] theorem State.melodyExit_oct (s : State) : (s.melodyExit).oct = s.oct := rfl

@[simp] theorem State.endCycle_cfg (s : State) : (s.endCycle).cfg = s.cfg := rfl
@[simp] theorem State.endCycle_script (s : State) : (s.endCycle).script = s.script.tail := rfl
@[simp] theorem State.endCycle_cycle (s : State) : (s.endCycle).cycle = s.cycle + 1 := rfl
@[simp] theorem State.endCycle_sticky (s : State) : (s.endCycle).sticky = s.sticky := rfl
@[simp] theorem State.endCycle_irqEn (s : State) : (s.endCycle).irqEn = s.irqEn := rfl
@[simp] theorem State.endCycle_tmo (s : State) : (s.endCycle).tmo = s.tmo := rfl
@[simp] theorem State.endCycle_rng (s : State) : (s.endCycle).rng = s.rng := rfl
@[simp] theorem State.endCycle_adc (s : State) : (s.endCycle).adc = s.adc := rfl
@[simp] theorem State.endCycle_fv (s : State) : (s.endCycle).fv = s.fv := rfl
@[simp] theorem State.endCycle_mv (s : State) : (s.endCycle).mv = s.mv := rfl
@[simp] theorem State.endCycle_dac (s : State) : (s.endCycle).dac = s.dac := rfl
@[simp] theorem State.endCycle_seq (s : State) : (s.endCycle).seq = s.seq := rfl
@[simp] theorem State.endCycle_play (s : State) : (s.endCycle).play = s.play := rfl
@[simp] theorem State.endCycle_oct (s : State) : (s.endCycle).oct = s.oct := rfl

@[simp] theorem State.withInput_cfg (s : State) (i : CycleInput) : (s.withInput i).cfg = s.cfg := rfl
@[simp] theorem State.withInput_script (s : State) (i : CycleInput) : (s.withInput i).script = i :: s.script := rfl
@[simp] theorem State.withInput_cycle (s : State) (i : CycleInput) : (s.withInput i).cycle = s.cycle := rfl
@[simp] theorem State.withInput_sticky (s : State) (i : CycleInput) : (s.withInput i).sticky = s.sticky := rfl
@[simp] theorem State.withInput_irqEn (s : State) (i : CycleInput) : (s.withInput i).irqEn = s.irqEn := rfl
@[simp] theorem State.withInput_tmo (s : State) (i : CycleInput) : (s.withInput i).tmo = s.tmo := rfl
@[simp] theorem State.withInput_rng (s : State) (i : CycleInput) : (s.withInput i).rng = s.rng := rfl
@[simp] theorem State.withInput_adc (s : State) (i : CycleInput) : (s.withInput i).adc = s.adc := rfl
@[simp] theorem State.withInput_fv (s : State) (i : CycleInput) : (s.withInput i).fv = s.fv := rfl
@[simp] theorem State.withInput_mv (s : State) (i : CycleInput) : (s.withInput i).mv = s.mv := rfl
@[simp] theorem State.withInput_dac (s : State) (i : CycleInput) : (s.withInput i).dac = s.dac := rfl
@[simp] theorem State.withInput_seq (s : State) (i : CycleInput) : (s.withInput i).seq = s.seq := rfl
@[simp] theorem State.withInput_play (s : State) (i : CycleInput) : (s.withInput i).play = s.play := rfl
@[simp] theorem State.withInput_oct (s : State) (i : CycleInput) : (s.withInput i).oct = s.oct := rfl

@[simp] theorem State.raiseIf_cfg (s : State) (b : Bool) (c : Cond) : (s.raiseIf b c).cfg = s.cfg := by cases b <;> rfl
@[simp] theorem State.raiseIf_script (s : State) (b : Bool) (c : Cond) : (s.raiseIf b c).script = s.script := by cases b <;> rfl
@[simp] theorem State.raiseIf_cycle (s : State) (b : Bool) (c : Cond) : (s.raiseIf b c).cycle = s.cycle := by cases b <;> rfl
@[simp] theorem State.raiseIf_sticky (s : State) (b : Bool) (c : Cond) :
    (s.raiseIf b c).sticky = s.sticky ||| (if b then c.mask else 0#9) := by cases b <;> simp [State.raiseIf]
@[simp] theorem State.raiseIf_irqEn (s : State) (b : Bool) (c : Cond) : (s.raiseIf b c).irqEn = s.irqEn := by cases b <;> rfl
@[simp] theorem State.raiseIf_tmo (s : State) (b : Bool) (c : Cond) : (s.raiseIf b c).tmo = s.tmo := by cases b <;> rfl
@[simp] theorem State.raiseIf_rng (s : State) (b : Bool) (c : Cond) : (s.raiseIf b c).rng = s.rng := by cases b <;> rfl
@[simp] theorem State.raiseIf_adc (s : State) (b : Bool) (c : Cond) : (s.raiseIf b c).adc = s.adc := by cases b <;> rfl
@[simp] theorem State.raiseIf_fv (s : State) (b : Bool) (c : Cond) : (s.raiseIf b c).fv = s.fv := by cases b <;> rfl
@[simp] theorem State.raiseIf_mv (s : State) (b : Bool) (c : Cond) : (s.raiseIf b c).mv = s.mv := by cases b <;> rfl
@[simp] theorem State.raiseIf_dac (s : State) (b : Bool) (c : Cond) : (s.raiseIf b c).dac = s.dac := by cases b <;> rfl
@[simp] theorem State.raiseIf_seq (s : State) (b : Bool) (c : Cond) : (s.raiseIf b c).seq = s.seq := by cases b <;> rfl
@[simp] theorem State.raiseIf_play (s : State) (b : Bool) (c : Cond) : (s.raiseIf b c).play = s.play := by cases b <;> rfl
@[simp] theorem State.raiseIf_oct (s : State) (b : Bool) (c : Cond) : (s.raiseIf b c).oct = s.oct := by cases b <;> rfl

@[simp] theorem resetCycle_cfg (s : State) : (resetCycle s).cfg = (State.resetOf s.cfg).cfg := rfl
@[simp] theorem resetCycle_script (s : State) : (resetCycle s).script = s.script := rfl
@[simp] theorem resetCycle_cycle (s : State) : (resetCycle s).cycle = s.cycle := rfl
@[simp] theorem resetCycle_sticky (s : State) : (resetCycle s).sticky = (State.resetOf s.cfg).sticky := rfl
@[simp] theorem resetCycle_irqEn (s : State) : (resetCycle s).irqEn = (State.resetOf s.cfg).irqEn := rfl
@[simp] theorem resetCycle_tmo (s : State) : (resetCycle s).tmo = (State.resetOf s.cfg).tmo := rfl
@[simp] theorem resetCycle_rng (s : State) : (resetCycle s).rng = (State.resetOf s.cfg).rng := rfl
@[simp] theorem resetCycle_adc (s : State) : (resetCycle s).adc = (State.resetOf s.cfg).adc := rfl
@[simp] theorem resetCycle_fv (s : State) : (resetCycle s).fv = (State.resetOf s.cfg).fv := rfl
@[simp] theorem resetCycle_mv (s : State) : (resetCycle s).mv = (State.resetOf s.cfg).mv := rfl
@[simp] theorem resetCycle_dac (s : State) : (resetCycle s).dac = (State.resetOf s.cfg).dac := rfl
@[simp] theorem resetCycle_seq (s : State) : (resetCycle s).seq = (State.resetOf s.cfg).seq := rfl
@[simp] theorem resetCycle_play (s : State) : (resetCycle s).play = (State.resetOf s.cfg).play := rfl
@[simp] theorem resetCycle_oct (s : State) : (resetCycle s).oct = (State.resetOf s.cfg).oct := rfl

@[simp] theorem State.resetOf_cfg (p : Params) : (State.resetOf p).cfg = p := rfl

@[simp] theorem State.input_withInput (s : State) (i : CycleInput) : (s.withInput i).input = i := rfl

end Sys2Proof.Machine
end

