-- ==== Sys2Proof/Laws/Cycle.lean ====
section
/-! SUPPORT. What each part of a cycle does to each field: one lemma per field, so that no later proof unfolds them. -/

namespace Sys2Proof.Machine

/-! ### The Ranger -/

@[simp] theorem rangerCycle_cfg (inp : CycleInput) (s t : State) : (rangerCycle inp s t).cfg = t.cfg := by
  unfold rangerCycle; split <;> simp
@[simp] theorem rangerCycle_script (inp : CycleInput) (s t : State) : (rangerCycle inp s t).script = t.script := by
  unfold rangerCycle; split <;> simp
@[simp] theorem rangerCycle_cycle (inp : CycleInput) (s t : State) : (rangerCycle inp s t).cycle = t.cycle := by
  unfold rangerCycle; split <;> simp
@[simp] theorem rangerCycle_irqEn (inp : CycleInput) (s t : State) : (rangerCycle inp s t).irqEn = t.irqEn := by
  unfold rangerCycle; split <;> simp
@[simp] theorem rangerCycle_tmo (inp : CycleInput) (s t : State) : (rangerCycle inp s t).tmo = t.tmo := by
  unfold rangerCycle; split <;> simp
@[simp] theorem rangerCycle_adc (inp : CycleInput) (s t : State) : (rangerCycle inp s t).adc = t.adc := by
  unfold rangerCycle; split <;> simp
@[simp] theorem rangerCycle_fv (inp : CycleInput) (s t : State) : (rangerCycle inp s t).fv = t.fv := by
  unfold rangerCycle; split <;> simp
@[simp] theorem rangerCycle_mv (inp : CycleInput) (s t : State) : (rangerCycle inp s t).mv = t.mv := by
  unfold rangerCycle; split <;> simp
@[simp] theorem rangerCycle_dac (inp : CycleInput) (s t : State) : (rangerCycle inp s t).dac = t.dac := by
  unfold rangerCycle; split <;> simp
@[simp] theorem rangerCycle_seq (inp : CycleInput) (s t : State) : (rangerCycle inp s t).seq = t.seq := by
  unfold rangerCycle; split <;> simp
@[simp] theorem rangerCycle_play (inp : CycleInput) (s t : State) : (rangerCycle inp s t).play = t.play := by
  unfold rangerCycle; split <;> simp
@[simp] theorem rangerCycle_oct (inp : CycleInput) (s t : State) : (rangerCycle inp s t).oct = t.oct := by
  unfold rangerCycle; split <;> simp
@[simp] theorem rangerCycle_rng (inp : CycleInput) (s t : State) :
    (rangerCycle inp s t).rng = if s.rng.st = .idle then t.rng else s.rng.tick s.cfg s.tmo inp.echo := by
  unfold rangerCycle; split <;> simp_all
@[simp] theorem rangerCycle_sticky (inp : CycleInput) (s t : State) :
    (rangerCycle inp s t).sticky = t.sticky ||| (if s.rng.finishes inp.echo then Cond.rngDone.mask else 0#9)
      ||| (if s.rng.timesOut inp.echo then Cond.rngTmo.mask else 0#9) := by
  unfold rangerCycle; split <;> simp

/-! ### The VolumeSampler -/

@[simp] theorem samplerCycle_cfg (inp : CycleInput) (s t : State) : (samplerCycle inp s t).cfg = t.cfg := by
  simp [samplerCycle]
@[simp] theorem samplerCycle_script (inp : CycleInput) (s t : State) : (samplerCycle inp s t).script = t.script := by
  simp [samplerCycle]
@[simp] theorem samplerCycle_cycle (inp : CycleInput) (s t : State) : (samplerCycle inp s t).cycle = t.cycle := by
  simp [samplerCycle]
@[simp] theorem samplerCycle_irqEn (inp : CycleInput) (s t : State) : (samplerCycle inp s t).irqEn = t.irqEn := by
  simp [samplerCycle]
@[simp] theorem samplerCycle_tmo (inp : CycleInput) (s t : State) : (samplerCycle inp s t).tmo = t.tmo := by
  simp [samplerCycle]
@[simp] theorem samplerCycle_rng (inp : CycleInput) (s t : State) : (samplerCycle inp s t).rng = t.rng := by
  simp [samplerCycle]
@[simp] theorem samplerCycle_fv (inp : CycleInput) (s t : State) : (samplerCycle inp s t).fv = t.fv := by
  simp [samplerCycle]
@[simp] theorem samplerCycle_mv (inp : CycleInput) (s t : State) : (samplerCycle inp s t).mv = t.mv := by
  simp [samplerCycle]
@[simp] theorem samplerCycle_dac (inp : CycleInput) (s t : State) : (samplerCycle inp s t).dac = t.dac := by
  simp [samplerCycle]
@[simp] theorem samplerCycle_seq (inp : CycleInput) (s t : State) : (samplerCycle inp s t).seq = t.seq := by
  simp [samplerCycle]
@[simp] theorem samplerCycle_play (inp : CycleInput) (s t : State) : (samplerCycle inp s t).play = t.play := by
  simp [samplerCycle]
@[simp] theorem samplerCycle_oct (inp : CycleInput) (s t : State) : (samplerCycle inp s t).oct = t.oct := by
  simp [samplerCycle]
@[simp] theorem samplerCycle_adc (inp : CycleInput) (s t : State) :
    (samplerCycle inp s t).adc = s.adc.tick s.cfg inp.adcDone inp.adcData := by
  simp [samplerCycle]
@[simp] theorem samplerCycle_sticky (inp : CycleInput) (s t : State) :
    (samplerCycle inp s t).sticky = t.sticky ||| (if s.adc.pend then Cond.volUpd.mask else 0#9) := by
  simp [samplerCycle]

/-! ### The voices -/

@[simp] theorem voicesCycle_cfg (s t : State) : (voicesCycle s t).cfg = t.cfg := by
  unfold voicesCycle; cases s.fvSteps <;> cases s.mvSteps <;> simp
@[simp] theorem voicesCycle_script (s t : State) : (voicesCycle s t).script = t.script := by
  unfold voicesCycle; cases s.fvSteps <;> cases s.mvSteps <;> simp
@[simp] theorem voicesCycle_cycle (s t : State) : (voicesCycle s t).cycle = t.cycle := by
  unfold voicesCycle; cases s.fvSteps <;> cases s.mvSteps <;> simp
@[simp] theorem voicesCycle_irqEn (s t : State) : (voicesCycle s t).irqEn = t.irqEn := by
  unfold voicesCycle; cases s.fvSteps <;> cases s.mvSteps <;> simp
@[simp] theorem voicesCycle_tmo (s t : State) : (voicesCycle s t).tmo = t.tmo := by
  unfold voicesCycle; cases s.fvSteps <;> cases s.mvSteps <;> simp
@[simp] theorem voicesCycle_rng (s t : State) : (voicesCycle s t).rng = t.rng := by
  unfold voicesCycle; cases s.fvSteps <;> cases s.mvSteps <;> simp
@[simp] theorem voicesCycle_adc (s t : State) : (voicesCycle s t).adc = t.adc := by
  unfold voicesCycle; cases s.fvSteps <;> cases s.mvSteps <;> simp
@[simp] theorem voicesCycle_seq (s t : State) : (voicesCycle s t).seq = t.seq := by
  unfold voicesCycle; cases s.fvSteps <;> cases s.mvSteps <;> simp
@[simp] theorem voicesCycle_play (s t : State) : (voicesCycle s t).play = t.play := by
  unfold voicesCycle; cases s.fvSteps <;> cases s.mvSteps <;> simp
@[simp] theorem voicesCycle_oct (s t : State) : (voicesCycle s t).oct = t.oct := by
  unfold voicesCycle; cases s.fvSteps <;> cases s.mvSteps <;> simp
@[simp] theorem voicesCycle_fv (s t : State) :
    (voicesCycle s t).fv = if s.fvSteps then s.fv.step else t.fv := by
  unfold voicesCycle; cases s.fvSteps <;> cases s.mvSteps <;> simp
@[simp] theorem voicesCycle_mv (s t : State) :
    (voicesCycle s t).mv = if s.mvSteps then s.mv.step else t.mv := by
  unfold voicesCycle; cases s.fvSteps <;> cases s.mvSteps <;> simp
@[simp] theorem voicesCycle_dac (s t : State) : (voicesCycle s t).dac = s.nextDac := by
  unfold voicesCycle; cases s.fvSteps <;> cases s.mvSteps <;> simp
@[simp] theorem voicesCycle_sticky (s t : State) :
    (voicesCycle s t).sticky = t.sticky ||| (if s.fvSteps && s.fv.finishes then Cond.synDone.mask else 0#9) := by
  unfold voicesCycle; cases s.fvSteps <;> cases s.mvSteps <;> simp

/-! ### The IdleSequencer -/

@[simp] theorem sequencerCycle_cfg (r : Bool) (s t : State) : (sequencerCycle r s t).cfg = t.cfg := by
  unfold sequencerCycle State.nextNote; split <;> repeat' split
  all_goals rfl
@[simp] theorem sequencerCycle_script (r : Bool) (s t : State) : (sequencerCycle r s t).script = t.script := by
  unfold sequencerCycle State.nextNote; split <;> repeat' split
  all_goals rfl
@[simp] theorem sequencerCycle_cycle (r : Bool) (s t : State) : (sequencerCycle r s t).cycle = t.cycle := by
  unfold sequencerCycle State.nextNote; split <;> repeat' split
  all_goals rfl
@[simp] theorem sequencerCycle_irqEn (r : Bool) (s t : State) : (sequencerCycle r s t).irqEn = t.irqEn := by
  unfold sequencerCycle State.nextNote; split <;> repeat' split
  all_goals rfl
@[simp] theorem sequencerCycle_tmo (r : Bool) (s t : State) : (sequencerCycle r s t).tmo = t.tmo := by
  unfold sequencerCycle State.nextNote; split <;> repeat' split
  all_goals rfl
@[simp] theorem sequencerCycle_rng (r : Bool) (s t : State) : (sequencerCycle r s t).rng = t.rng := by
  unfold sequencerCycle State.nextNote; split <;> repeat' split
  all_goals rfl
@[simp] theorem sequencerCycle_adc (r : Bool) (s t : State) : (sequencerCycle r s t).adc = t.adc := by
  unfold sequencerCycle State.nextNote; split <;> repeat' split
  all_goals rfl
@[simp] theorem sequencerCycle_fv (r : Bool) (s t : State) : (sequencerCycle r s t).fv = t.fv := by
  unfold sequencerCycle State.nextNote; split <;> repeat' split
  all_goals rfl
@[simp] theorem sequencerCycle_dac (r : Bool) (s t : State) : (sequencerCycle r s t).dac = t.dac := by
  unfold sequencerCycle State.nextNote; split <;> repeat' split
  all_goals rfl
@[simp] theorem sequencerCycle_oct (r : Bool) (s t : State) : (sequencerCycle r s t).oct = t.oct := by
  unfold sequencerCycle State.nextNote; split <;> repeat' split
  all_goals rfl

/-- Everything the IdleSequencer's part of a cycle can be: one of the rules R100, R101, R102, R103, R104, or nothing. -/
theorem sequencerCycle_cases (r : Bool) (s t : State) :
    (s.seq.st = .armed ∧ r = true ∧ sequencerCycle r s t = t) ∨
    (s.idleExpires r = true ∧ sequencerCycle r s t = t.melodyEntry) ∨
    (s.seq.st = .armed ∧ r = false ∧ 1 < s.seq.idleCnt.toNat ∧ sequencerCycle r s t = t.countIdle) ∨
    (s.seq.st = .firing ∧ s.mv.act = true ∧ sequencerCycle r s t = t) ∨
    (s.seq.st = .firing ∧ s.mv.act = false ∧ s.seq.melIdx.toNat < 8 ∧ sequencerCycle r s t = s.nextNote t) ∨
    (s.seq.st = .firing ∧ s.mv.act = false ∧ s.seq.melIdx.toNat = 8 ∧ sequencerCycle r s t = t.melodyExit) ∨
    (s.seq.st = .firing ∧ s.mv.act = false ∧ 8 < s.seq.melIdx.toNat ∧ sequencerCycle r s t = t) := by
  unfold sequencerCycle State.idleExpires
  cases h : s.seq.st with
  | armed =>
    cases r <;> by_cases hc : s.seq.idleCnt.toNat ≤ 1 <;> simp_all
  | firing =>
    cases ha : s.mv.act
    · rcases Nat.lt_trichotomy s.seq.melIdx.toNat 8 with h8 | h8 | h8
      · simp [h8]
      · simp [h8]
      · simp [h8, Nat.lt_asymm h8, Nat.ne_of_gt h8]
    · simp

theorem nextNote_eq (s t : State) :
    s.nextNote t = { t.melodyNote with mv := s.melodyVoice.getD t.mv } := by
  unfold State.nextNote; cases s.melodyVoice <;> rfl

/-! ### The octave select -/

@[simp] theorem octaveCycle_cfg (inp : CycleInput) (t : State) : (octaveCycle inp t).cfg = t.cfg := by
  rfl
@[simp] theorem octaveCycle_script (inp : CycleInput) (t : State) : (octaveCycle inp t).script = t.script := by
  rfl
@[simp] theorem octaveCycle_cycle (inp : CycleInput) (t : State) : (octaveCycle inp t).cycle = t.cycle := by
  rfl
@[simp] theorem octaveCycle_sticky (inp : CycleInput) (t : State) : (octaveCycle inp t).sticky = t.sticky := by
  rfl
@[simp] theorem octaveCycle_irqEn (inp : CycleInput) (t : State) : (octaveCycle inp t).irqEn = t.irqEn := by
  rfl
@[simp] theorem octaveCycle_tmo (inp : CycleInput) (t : State) : (octaveCycle inp t).tmo = t.tmo := by
  rfl
@[simp] theorem octaveCycle_rng (inp : CycleInput) (t : State) : (octaveCycle inp t).rng = t.rng := by
  rfl
@[simp] theorem octaveCycle_adc (inp : CycleInput) (t : State) : (octaveCycle inp t).adc = t.adc := by
  rfl
@[simp] theorem octaveCycle_fv (inp : CycleInput) (t : State) : (octaveCycle inp t).fv = t.fv := by
  rfl
@[simp] theorem octaveCycle_mv (inp : CycleInput) (t : State) : (octaveCycle inp t).mv = t.mv := by
  rfl
@[simp] theorem octaveCycle_dac (inp : CycleInput) (t : State) : (octaveCycle inp t).dac = t.dac := by
  rfl
@[simp] theorem octaveCycle_seq (inp : CycleInput) (t : State) : (octaveCycle inp t).seq = t.seq := by
  rfl
@[simp] theorem octaveCycle_play (inp : CycleInput) (t : State) : (octaveCycle inp t).play = t.play := by
  rfl
@[simp] theorem octaveCycle_oct (inp : CycleInput) (t : State) :
    (octaveCycle inp t).oct = { sel := octaveDecode inp.btn1 inp.btn2, btn1Q := inp.btn1, btn2Q := inp.btn2 } := rfl

/-! ### All units -/

@[simp] theorem unitsCycle_cfg (inp : CycleInput) (s t : State) : (unitsCycle inp s t).cfg = t.cfg := by
  simp [unitsCycle]
@[simp] theorem unitsCycle_script (inp : CycleInput) (s t : State) : (unitsCycle inp s t).script = t.script := by
  simp [unitsCycle]
@[simp] theorem unitsCycle_cycle (inp : CycleInput) (s t : State) : (unitsCycle inp s t).cycle = t.cycle := by
  simp [unitsCycle]
@[simp] theorem unitsCycle_irqEn (inp : CycleInput) (s t : State) : (unitsCycle inp s t).irqEn = t.irqEn := by
  simp [unitsCycle]
@[simp] theorem unitsCycle_tmo (inp : CycleInput) (s t : State) : (unitsCycle inp s t).tmo = t.tmo := by
  simp [unitsCycle]
@[simp] theorem unitsCycle_rng (inp : CycleInput) (s t : State) :
    (unitsCycle inp s t).rng = if s.rng.st = .idle then t.rng else s.rng.tick s.cfg s.tmo inp.echo := by
  simp [unitsCycle]
@[simp] theorem unitsCycle_adc (inp : CycleInput) (s t : State) :
    (unitsCycle inp s t).adc = s.adc.tick s.cfg inp.adcDone inp.adcData := by
  simp [unitsCycle]
@[simp] theorem unitsCycle_dac (inp : CycleInput) (s t : State) : (unitsCycle inp s t).dac = s.nextDac := by
  simp [unitsCycle]
@[simp] theorem unitsCycle_fv (inp : CycleInput) (s t : State) :
    (unitsCycle inp s t).fv = if s.fvSteps then s.fv.step else t.fv := by
  simp [unitsCycle]
@[simp] theorem unitsCycle_oct (inp : CycleInput) (s t : State) :
    (unitsCycle inp s t).oct =
      { sel := octaveDecode inp.btn1 inp.btn2, btn1Q := inp.btn1, btn2Q := inp.btn2 } := by
  simp [unitsCycle]

/-- The IdleSequencer's own registers, PLAYST and MV after all units: those of the sequencer's part, which comes last. -/
theorem unitsCycle_sequencer (inp : CycleInput) (s t : State) :
    ∃ u : State, u.cfg = t.cfg ∧ u.seq = t.seq ∧ u.play = t.play ∧
      u.mv = (if s.mvSteps then s.mv.step else t.mv) ∧
      (unitsCycle inp s t).seq = (sequencerCycle (rearmAccepted inp s) s u).seq ∧
      (unitsCycle inp s t).play = (sequencerCycle (rearmAccepted inp s) s u).play ∧
      (unitsCycle inp s t).mv = (sequencerCycle (rearmAccepted inp s) s u).mv := by
  refine ⟨voicesCycle s (samplerCycle inp s (rangerCycle inp s t)), ?_⟩
  simp [unitsCycle]

end Sys2Proof.Machine
end

