-- ==== Sys2Proof/Laws/Exec.lean ====
section
/-! SUPPORT. What the commands and the bus accesses can do, said once. -/

namespace Sys2Proof.Machine

/-- Everything playing a note can give: no voice, or the voice R87 loads, with at least one repeat. -/
theorem noteVoice_cases (p : Params) (note : NoteCode) (oct : OctCode) (div : VolLevel) (durMs : BitVec 16) :
    noteVoice p note oct div durMs = none ∨
    ∃ n : Fin 8, note.toNat = n.val ∧ oct ≠ inactive ∧ div ≠ .mute ∧ repeatCount p n oct durMs ≠ 0#32 ∧
      noteVoice p note oct div durMs = some (voiceLoad p n oct div (repeatCount p n oct durMs)) := by
  unfold noteVoice scaleNote
  cases hs : silent note oct div with
  | true => simp
  | false =>
    simp only [silent, Bool.or_eq_false_iff, decide_eq_false_iff_not] at hs
    by_cases hn : note.toNat < 8
    · by_cases hr : repeatCount p ⟨note.toNat, hn⟩ oct durMs = 0#32
      · simp [hn, hr]
      · exact .inr ⟨⟨note.toNat, hn⟩, rfl, hs.1.2, hs.2, hr, by simpa [hn] using hr⟩
    · simp [hn]

/-- Everything a command can do (R108, R109, R63, R81, R100): nothing, one raised error, a started measurement, a recorded
PlaybackState with SYN_DONE or with a loaded foreground voice, a reloaded idle timer. -/
theorem exec_cases (i : Instr) (s : State) :
    exec i s = .next s ∨
    (∃ c, (c = .errCmd ∨ c = .errBusy ∨ c = .errLock) ∧ exec i s = .next (s.raise c)) ∨
    (i = .measure ∧ s.rng.st = .idle ∧ exec i s = .next { s with rng := s.rng.start s.cfg }) ∨
    (∃ note oct durMs, i = .play note oct durMs ∧ playLegal note oct = true ∧ s.seq.st = .armed ∧ s.fv.act = false ∧
      ((noteVoice s.cfg note oct s.adc.vlevel durMs = none ∧
          exec i s = .next ((s.recordPlayback note oct).raise .synDone)) ∨
        ∃ v, noteVoice s.cfg note oct s.adc.vlevel durMs = some v ∧
          exec i s = .next { s.recordPlayback note oct with fv := v })) ∨
    (i = .rearm ∧ s.seq.st = .armed ∧ exec i s = .next s.reloadIdle) := by
  cases i with
  | nop => exact .inl rfl
  | reserved4to7 a b => exact .inr (.inl ⟨.errCmd, by simp, rfl⟩)
  | reserved8toF a b => exact .inr (.inl ⟨.errCmd, by simp, rfl⟩)
  | measure =>
    by_cases h : s.rng.st = .idle
    · exact .inr (.inr (.inl ⟨rfl, h, by simp [exec, execMeasure, h]⟩))
    · exact .inr (.inl ⟨.errBusy, by simp, by simp [exec, execMeasure, h]⟩)
  | rearm =>
    cases h : s.seq.st with
    | firing => exact .inr (.inl ⟨.errLock, by simp, by simp [exec, execRearm, h]⟩)
    | armed => exact .inr (.inr (.inr (.inr ⟨rfl, rfl, by simp [exec, execRearm, h]⟩)))
  | play note oct durMs =>
    by_cases hl : playLegal note oct = false
    · exact .inr (.inl ⟨.errCmd, by simp, by simp [exec, execPlay, hl]⟩)
    · cases h : s.seq.st with
      | firing => exact .inr (.inl ⟨.errLock, by simp, by simp_all [exec, execPlay]⟩)
      | armed =>
        cases ha : s.fv.act with
        | true => exact .inr (.inl ⟨.errBusy, by simp, by simp_all [exec, execPlay]⟩)
        | false =>
          refine .inr (.inr (.inr (.inl ⟨note, oct, durMs, rfl, by simpa using hl, rfl, rfl, ?_⟩)))
          cases hv : noteVoice s.cfg note oct s.adc.vlevel durMs with
          | none => exact .inl ⟨rfl, by simp_all [exec, execPlay]⟩
          | some v => exact .inr ⟨v, rfl, by simp_all [exec, execPlay]⟩

/-- What no command writes: the parameters, the script, the cycle count, IRQ_EN, TMO, the VolumeSampler, MV, the audio
output, the octave select. -/
theorem exec_frame {i : Instr} {s t : State} (h : exec i s = .next t) :
    t.cfg = s.cfg ∧ t.script = s.script ∧ t.cycle = s.cycle ∧ t.irqEn = s.irqEn ∧ t.tmo = s.tmo ∧ t.adc = s.adc ∧
    t.mv = s.mv ∧ t.dac = s.dac ∧ t.oct = s.oct := by
  rcases exec_cases i s with h' | ⟨c, -, h'⟩ | ⟨-, -, h'⟩ | ⟨_, _, _, -, -, -, -, ⟨-, h'⟩ | ⟨_, -, h'⟩⟩ | ⟨-, -, h'⟩ <;>
    · rw [h'] at h
      cases h
      simp

/-- A command always answers a next state. -/
theorem exec_total (i : Instr) (s : State) : ∃ t, exec i s = .next t := by
  rcases exec_cases i s with h' | ⟨c, -, h'⟩ | ⟨-, -, h'⟩ | ⟨_, _, _, -, -, -, -, ⟨-, h'⟩ | ⟨_, -, h'⟩⟩ | ⟨-, -, h'⟩ <;>
    exact ⟨_, h'⟩

/-- Everything a bus access can do (R35 to R37, R53): nothing, a command's effect, ERR_CMD for an illegal word, or the
write of STATUS, IRQ_EN or TMO. -/
theorem busAccess_cases (inp : CycleInput) (s : State) :
    busAccess inp s = .next s ∨
    (∃ v i, cmdWord inp = some v ∧ decode v = .ok i ∧ busAccess inp s = exec i s) ∨
    (∃ v e, cmdWord inp = some v ∧ decode v = .error e ∧ busAccess inp s = .next (s.raise .errCmd)) ∨
    (cmdWord inp = none ∧ ∃ v, busAccess inp s = .next (s.clearStatus v) ∨ busAccess inp s = .next (s.writeIrqEn v) ∨
      busAccess inp s = .next (s.writeTmo v)) := by
  unfold busAccess cmdWord
  cases hb : (inp.busEn && inp.busWe) with
  | false => simp
  | true =>
    simp only [if_true, Bool.true_and, memWrite]
    split <;> rename_i hk
    · have h0 : slotOf inp.busAddr = 0#6 := BitVec.eq_of_toNat_eq hk
      unfold cmdWrite
      cases hd : decode inp.busWdata with
      | ok i => exact .inr (.inl ⟨_, i, by simp [h0], hd, rfl⟩)
      | error e => exact .inr (.inr (.inl ⟨_, e, by simp [h0], hd, rfl⟩))
    all_goals first
      | exact .inl rfl
      | (have h0 : slotOf inp.busAddr ≠ 0#6 := fun h => by rw [h] at hk; simp at hk
         refine .inr (.inr (.inr ⟨by simpa using h0, inp.busWdata, ?_⟩))
         simp)

/-- A bus access always answers a next state. -/
theorem busAccess_total (inp : CycleInput) (s : State) : ∃ t, busAccess inp s = .next t := by
  rcases busAccess_cases inp s with h | ⟨v, i, -, -, h⟩ | ⟨v, e, -, -, h⟩ | ⟨-, v, h | h | h⟩
  · exact ⟨_, h⟩
  · rw [h]; exact exec_total i s
  all_goals exact ⟨_, h⟩

/-- What no bus access writes: the parameters, the script, the cycle count, the VolumeSampler, MV, the audio output, the
octave select. -/
theorem busAccess_frame {inp : CycleInput} {s t : State} (h : busAccess inp s = .next t) :
    t.cfg = s.cfg ∧ t.script = s.script ∧ t.cycle = s.cycle ∧ t.adc = s.adc ∧ t.mv = s.mv ∧ t.dac = s.dac ∧
    t.oct = s.oct := by
  rcases busAccess_cases inp s with h' | ⟨v, i, -, -, h'⟩ | ⟨v, e, -, -, h'⟩ | ⟨-, v, h' | h' | h'⟩
  · rw [h'] at h; cases h; simp
  · rw [h'] at h
    obtain ⟨h1, h2, h3, -, -, h4, h5, h6, h7⟩ := exec_frame h
    exact ⟨h1, h2, h3, h4, h5, h6, h7⟩
  all_goals
    rw [h'] at h
    cases h
    simp

/-- While a measurement runs no bus access changes the Ranger (R63). -/
theorem busAccess_rng {s b : State} {i : CycleInput} (hb : busAccess i s = .next b)
    (h : s.rng.st ≠ .idle) : b.rng = s.rng := by
  rcases busAccess_cases i s with h' | ⟨v, j, -, -, h'⟩ | ⟨v, e, -, -, h'⟩ | ⟨-, v, h' | h' | h'⟩
  all_goals rw [h'] at hb
  · cases hb; rfl
  · rcases exec_cases j s with h' | ⟨c, -, h'⟩ | ⟨-, h2, h'⟩ | ⟨_, _, _, -, -, -, -, ⟨-, h'⟩ | ⟨_, -, h'⟩⟩ | ⟨-, -, h'⟩ <;> rw [h'] at hb <;> cases hb <;> first | rfl | (exact absurd h2 h) 
  all_goals cases hb; rfl

/-- A bus access changes the IdleSequencer only by an accepted REARM (R100). -/
theorem busAccess_seq {s b : State} {i : CycleInput} (hb : busAccess i s = .next b) :
    b.seq = (if rearmAccepted i s then {s.seq with idleCnt := s.cfg.idleTicks} else s.seq) := by
  unfold rearmAccepted
  rcases busAccess_cases i s with h' | ⟨v, j, h1, h2, h'⟩ | ⟨v, e, h1, h2, h'⟩ | ⟨h1, v, h' | h' | h'⟩
  all_goals rw [h'] at hb
  · cases hb
    split
    · rename_i v hc
      cases hd : decode v with
      | error e => simp
      | ok j =>
        simp only
        cases j <;> try simp
        · intro hh
          unfold cmdWord at hc; split at hc <;> cases hc
          rename_i hx; simp at hx
          simp [busAccess, hx, memWrite, cmdWrite, hd, exec, execRearm, hh] at h'
          have := congrArg State.seq h'; simpa using this.symm
    · rfl
  · simp only [h1, h2]
    rcases exec_cases j s with h' | ⟨c, -, h'⟩ | ⟨h3, -, h'⟩ | ⟨_, _, _, h3, -, -, -, ⟨-, h'⟩ | ⟨_, -, h'⟩⟩ | ⟨h3, h4, h'⟩
    all_goals rw [h'] at hb
    all_goals cases hb
    · cases j <;> try simp
      intro hh; simp [exec, execRearm, hh] at h'; have := congrArg State.seq h'; simpa using this.symm
    · cases j <;> try simp
      intro hh; simp [exec, execRearm, hh] at h'; have := congrArg State.seq h'; simpa using this.symm
    · subst h3; simp
    · subst h3; simp
    · subst h3; simp
    · subst h3; simp [h4]
  · cases hb; simp [h1, h2]
  all_goals cases hb; simp [h1]

/-- While FV plays, or while FIRING, no bus access changes FV (R81). -/
theorem busAccess_fv {s b : State} {i : CycleInput} (hb : busAccess i s = .next b)
    (h : s.fv.act = true ∨ s.seq.st = .firing) : b.fv = s.fv := by
  rcases busAccess_cases i s with h' | ⟨v, j, -, -, h'⟩ | ⟨v, e, -, -, h'⟩ | ⟨-, v, h' | h' | h'⟩
  all_goals rw [h'] at hb
  · cases hb; rfl
  · rcases exec_cases j s with h' | ⟨c, -, h'⟩ | ⟨-, h2, h'⟩ | ⟨_, _, _, -, -, h3, h4, ⟨-, h'⟩ | ⟨_, -, h'⟩⟩ | ⟨-, -, h'⟩ <;> rw [h'] at hb <;> cases hb <;> first | rfl | (simp [h3, h4] at h) 
  all_goals cases hb; rfl

end Sys2Proof.Machine
end

