-- ==== Sys2Proof/Laws/PerInstr.lean ====
section
/-! SUPPORT. Per-instruction families: the word of every instruction fits its row of spec/opcode_table.json. -/

namespace Sys2Proof

/-- The mask of an instruction's row in spec/opcode_table.json. -/
def Instr.rowMask : Instr → Word
  | .nop => 0xFFFFFFFF#32
  | .measure => 0xFFFFFFFF#32
  | .play _ _ _ => 0x0000FC0F#32
  | .rearm => 0xFFFFFFFF#32
  | .reserved4to7 _ _ => 0x0000000C#32
  | .reserved8toF _ _ => 0x00000008#32

/-- The match of an instruction's row in spec/opcode_table.json. -/
def Instr.rowMatch : Instr → Word
  | .nop => 0x00000000#32
  | .measure => 0x00000001#32
  | .play _ _ _ => 0x00000002#32
  | .rearm => 0x00000003#32
  | .reserved4to7 _ _ => 0x00000004#32
  | .reserved8toF _ _ => 0x00000008#32

namespace Laws

/-- The encoder's word shows the row's match under the row's mask. -/
def EncodeMatchesRow.Statement (i : Instr) : Prop := encode i &&& i.rowMask = i.rowMatch

theorem EncodeMatchesRow.nop : EncodeMatchesRow.Statement .nop := by
  simp [EncodeMatchesRow.Statement, encode, Instr.rowMask, Instr.rowMatch]
theorem EncodeMatchesRow.measure : EncodeMatchesRow.Statement .measure := by
  simp [EncodeMatchesRow.Statement, encode, Instr.rowMask, Instr.rowMatch]
theorem EncodeMatchesRow.rearm : EncodeMatchesRow.Statement .rearm := by
  simp [EncodeMatchesRow.Statement, encode, Instr.rowMask, Instr.rowMatch]

/-- Two words are equal when their bits are: the bits of a numeral are decided one by one. -/
theorem word_ext {a b : Word} (h : ∀ k : Fin 32, a.getLsbD k = b.getLsbD k) : a = b :=
  BitVec.eq_of_getLsbD_eq fun k hk => h ⟨k, hk⟩

theorem EncodeMatchesRow.play (note : BitVec 4) (oct : BitVec 2) (durMs : BitVec 16) :
    EncodeMatchesRow.Statement (.play note oct durMs) := by
  refine word_ext fun k => ?_
  fin_cases k <;> simp [encode, Instr.rowMask, Instr.rowMatch]

theorem EncodeMatchesRow.reserved4to7 (opLow : BitVec 2) (other : BitVec 28) :
    EncodeMatchesRow.Statement (.reserved4to7 opLow other) := by
  refine word_ext fun k => ?_
  fin_cases k <;> simp [encode, Instr.rowMask, Instr.rowMatch]

theorem EncodeMatchesRow.reserved8toF (opLow : BitVec 3) (other : BitVec 28) :
    EncodeMatchesRow.Statement (.reserved8toF opLow other) := by
  refine word_ext fun k => ?_
  fin_cases k <;> simp [encode, Instr.rowMask, Instr.rowMatch]

end Laws

end Sys2Proof
end

