-- ==== Sys2Proof/Laws/Step.lean ====
section
/-! SUPPORT. What one step can do, said once: a reset, or the bus access followed by the units. -/

namespace Sys2Proof.Machine

theorem step_of_valid {s : State} (hv : s.cfg.Valid) : step s = cycleWith s.input s := by
  unfold step cycle; rw [if_pos hv]

/-- A reset cycle (R135). -/
theorem step_reset {s : State} (hv : s.cfg.Valid) (hr : s.input.rst = true) :
    step s = .next (resetCycle s).endCycle := by
  rw [step_of_valid hv, cycleWith, if_pos hr]

/-- A cycle without reset: the bus access leaves t, and the units write onto it (R111). -/
theorem step_live {s t : State} (hv : s.cfg.Valid) (hr : s.input.rst = false)
    (hb : busAccess s.input s = .next t) : step s = .next (unitsCycle s.input s t).endCycle := by
  rw [step_of_valid hv, cycleWith, if_neg (by simp [hr]), hb]

/-- Everything a step can do when it answers a next state. -/
theorem step_next_cases {s u : State} (h : step s = .next u) :
    s.cfg.Valid ∧
    ((s.input.rst = true ∧ u = (resetCycle s).endCycle) ∨
      ∃ t, s.input.rst = false ∧ busAccess s.input s = .next t ∧ u = (unitsCycle s.input s t).endCycle) := by
  by_cases hv : s.cfg.Valid
  · refine ⟨hv, ?_⟩
    cases hr : s.input.rst with
    | true => rw [step_reset hv hr] at h; cases h; exact .inl ⟨rfl, rfl⟩
    | false =>
      obtain ⟨t, ht⟩ := busAccess_total s.input s
      rw [step_live hv hr ht] at h
      cases h
      exact .inr ⟨t, rfl, ht, rfl⟩
  · simp [step, cycle, hv] at h

/-- The step on given inputs reads them and none of the script's. -/
theorem stepOn_live {s t : State} {i : CycleInput} (hv : s.cfg.Valid) (hr : i.rst = false)
    (hb : busAccess i (s.withInput i) = .next t) :
    stepOn i s = .next (unitsCycle i (s.withInput i) t).endCycle :=
  step_live (s := s.withInput i) hv hr hb

@[simp] theorem runOn_nil (s : State) : runOn [] s = .next s := rfl

theorem runOn_cons_next {i : CycleInput} {is : List CycleInput} {s t : State} (h : stepOn i s = .next t) :
    runOn (i :: is) s = runOn is t := by
  simp [runOn, h]

/-- A run on one list after another. -/
theorem runOn_append {is js : List CycleInput} {s t : State} (h : runOn is s = .next t) :
    runOn (is ++ js) s = runOn js t := by
  induction is generalizing s with
  | nil => cases h; rfl
  | cons i is ih =>
    unfold runOn at h
    split at h
    · rename_i u hu
      rw [List.cons_append, runOn_cons_next hu]
      exact ih h
    · cases h
    · cases h

@[simp] theorem eachCycle_nil (C : State → CycleInput → Prop) (s : State) : EachCycle C [] s := trivial

theorem eachCycle_cons_next {C : State → CycleInput → Prop} {i : CycleInput} {is : List CycleInput} {s t : State}
    (h : stepOn i s = .next t) : EachCycle C (i :: is) s ↔ C s i ∧ EachCycle C is t :=
  ⟨fun hc => ⟨hc.1, hc.2 t h⟩, fun hc => ⟨hc.1, fun u hu => by rw [h] at hu; cases hu; exact hc.2⟩⟩

/-- What each cycle of a run on one list after another meets. -/
theorem eachCycle_append {C : State → CycleInput → Prop} {is js : List CycleInput} {s t : State}
    (h : runOn is s = .next t) : EachCycle C (is ++ js) s ↔ EachCycle C is s ∧ EachCycle C js t := by
  induction is generalizing s with
  | nil => cases h; simp
  | cons i is ih =>
    unfold runOn at h
    split at h
    · rename_i u hu
      rw [List.cons_append, eachCycle_cons_next hu, eachCycle_cons_next hu, ih h, and_assoc]
    · cases h
    · cases h

theorem eachCycle_mono {C D : State → CycleInput → Prop} (hCD : ∀ w i, C w i → D w i) {is : List CycleInput} {s : State}
    (h : EachCycle C is s) : EachCycle D is s := by
  induction is generalizing s with
  | nil => trivial
  | cons i is ih => exact ⟨hCD _ _ h.1, fun t ht => ih (h.2 t ht)⟩

theorem eachCycle_prefix {C : State → CycleInput → Prop} {is js : List CycleInput} {s : State}
    (h : EachCycle C (is ++ js) s) : EachCycle C is s := by
  induction is generalizing s with
  | nil => trivial
  | cons i is ih => exact ⟨h.1, fun t ht => ih (h.2 t ht)⟩

/-- A condition that a step on each of the inputs keeps holds in each cycle of the run. -/
theorem eachCycle_of_kept {I : State → Prop} {is : List CycleInput} {s : State} (h0 : I s)
    (hk : ∀ i ∈ is, ∀ w t, I w → stepOn i w = .next t → I t) : EachCycle (fun w _ => I w) is s := by
  induction is generalizing s with
  | nil => trivial
  | cons i is ih =>
    exact ⟨h0, fun t ht => ih (hk i (by simp) s t h0 ht) fun j hj => hk j (by simp [hj])⟩

end Sys2Proof.Machine
end

