-- ==== Sys2Proof/Laws/Units.lean ====
section
/-! SUPPORT. What each unit's own update can do, said once. -/

namespace Sys2Proof.Machine

/-- A voice's step (R88): it ends, it writes the last sample of a table walk, it writes another sample, or it waits. -/
theorem Voice.step_cases (v : Voice) :
    (v.finishes = true ∧ v.step = { v with act := false }) ∨
    (v.writes = true ∧ v.idx.toNat = tableSize - 1 ∧
      v.step = { v with idx := 0#7, reps := v.reps - 1#32, wait := v.per - 1#16 }) ∨
    (v.writes = true ∧ v.idx.toNat ≠ tableSize - 1 ∧ v.step = { v with idx := v.idx + 1#7, wait := v.per - 1#16 }) ∨
    (v.wait ≠ 0#16 ∧ v.writes = false ∧ v.finishes = false ∧ v.step = { v with wait := v.wait - 1#16 }) := by
  unfold Voice.step Voice.finishes Voice.writes
  by_cases hw : v.wait = 0#16 <;> by_cases hr : v.reps = 0#32 <;> by_cases hi : v.idx.toNat = tableSize - 1 <;>
    simp [hw, hr, hi]

/-- The Ranger's update (R64 to R72): a timeout, the state rule with the timeout counting, or the state rule alone. -/
theorem Ranger.tick_cases (p : Params) (tmo : BitVec 32) (echo : Bool) (r : Ranger) :
    (r.timesOut echo = true ∧ r.tick p tmo echo = r.afterTimeout) ∨
    (r.timesOut echo = false ∧ r.timing echo = true ∧ r.tick p tmo echo = r.countDown.stateRule p tmo echo) ∨
    (r.timesOut echo = false ∧ r.timing echo = false ∧ r.tick p tmo echo = r.stateRule p tmo echo) := by
  unfold Ranger.tick
  cases r.timesOut echo <;> cases r.timing echo <;> simp

/-- The Ranger without a timeout follows its state rule. -/
theorem Ranger.tick_of_not_timing {r : Ranger} {echo : Bool} (p : Params) (tmo : BitVec 32)
    (h : r.timing echo = false) : r.tick p tmo echo = r.stateRule p tmo echo := by
  simp [Ranger.tick, Ranger.timesOut, h]

/-- No timeout rule applies while TMO_EN is 0 (R72). -/
theorem Ranger.timing_of_disabled {r : Ranger} {echo : Bool} (h : r.tmoEn = false) : r.timing echo = false := by
  simp [Ranger.timing, h]

/-- The VolumeSampler's update (R95, R96), field by field. -/
theorem VolSampler.tick_eq (p : Params) (done : Bool) (port : BitVec 16) (a : VolSampler) :
    a.tick p done port =
      { pend := done
        data := if done then adcPort p port else a.data
        raw := if a.pend then a.data else a.raw
        vlevel := if a.pend then volumeLevel a.data else a.vlevel } := by
  cases a with
  | mk pe d r v => cases pe <;> cases done <;> rfl

/-- The slot length is in 16 bits and at least 1 (R84). -/
theorem slotLength_pos (p : Params) (n : Fin 8) (oct : OctCode) : 1 ≤ (slotLength p n oct).toNat := by
  unfold slotLength
  have h1 : p.cycleCount[n].toNat / oct.toNat ≤ p.cycleCount[n].toNat := Nat.div_le_self _ _
  have h2 : p.cycleCount[n].toNat < 2 ^ 16 := p.cycleCount[n].isLt
  rw [BitVec.toNat_ofNat, Nat.mod_eq_of_lt] <;> omega

/-- The slot length as a number (R84): nothing is lost in its 16 bits. -/
theorem slotLength_toNat (p : Params) (n : Fin 8) (oct : OctCode) :
    (slotLength p n oct).toNat = max 1 (p.cycleCount[n].toNat / oct.toNat - p.delayCorr.toNat) := by
  unfold slotLength
  have h1 : p.cycleCount[n].toNat / oct.toNat ≤ p.cycleCount[n].toNat := Nat.div_le_self _ _
  have h2 : p.cycleCount[n].toNat < 2 ^ 16 := p.cycleCount[n].isLt
  rw [BitVec.toNat_ofNat, Nat.mod_eq_of_lt]; omega

/-- sat32 as a number (R11). -/
theorem sat32_toNat (v : Nat) : (sat32 v).toNat = min v (2 ^ 32 - 1) := by
  unfold sat32
  rw [BitVec.toNat_ofNat, Nat.mod_eq_of_lt]; omega

/-- A clamped value lies between its bounds (R11). -/
theorem clamp_bounds {v lo hi : Int} (h : lo ≤ hi) : lo ≤ clamp v lo hi ∧ clamp v lo hi ≤ hi := by
  unfold clamp; omega

/-- The ADC port value has ADC_W bits (R16). -/
theorem adcPort_lt (p : Params) (v : BitVec 16) : (adcPort p v).toNat < 2 ^ p.adcW := by
  unfold adcPort
  have h : v.toNat % 2 ^ p.adcW < 2 ^ p.adcW := Nat.mod_lt _ (Nat.two_pow_pos _)
  have h2 : v.toNat % 2 ^ p.adcW ≤ v.toNat := Nat.mod_le _ _
  rw [BitVec.toNat_ofNat, Nat.mod_eq_of_lt] <;> omega

end Sys2Proof.Machine
end

