-- ==== Sys2Proof/Tests/Slice0.lean ====
section
/-! SUPPORT. Tests of this model's own. Expected values come from spec/95_test_vectors.md and from the encodings of
spec/30_encoding.md written out by hand; each comment names the source. Then one witness for every statement that has
hypotheses. -/

namespace Sys2Proof.Tests

open Sys2Proof Sys2Proof.Machine

/-! ### Helpers -/

/-- The outcome is a next state with the property f. -/
def nextHas (r : Result) (f : State → Bool) : Bool :=
  match r with
  | .next t => f t
  | .fault _ => false
  | .refused _ => false

/-- A cycle with every pin 0. -/
def q : CycleInput := CycleInput.quiet
/-- A cycle in which the host writes v to CMD. -/
def cmd (v : Word) : CycleInput := q.withWrite 0x00#8 v
/-- A cycle with `echo` = 1. -/
def hi : CycleInput := { q with echo := true }
/-- A cycle with `rst` = 1. -/
def rs : CycleInput := { q with rst := true }

/-- The reset state at the reference parameters with VLEVEL = LOUD. -/
def loud : State := { State.reset with adc := { State.reset.adc with vlevel := .loud } }
/-- Parameters with SETTLE_CYC = PULSE_CYC = 1 and a short idle interval. -/
def tiny : Params := { Params.reference with fClkHz := 1, idleTicks := 3#32 }
/-- The reset state at those parameters, the coming cycle's inputs i. -/
def tinyOn (i : CycleInput) : State := { State.resetOf tiny with script := [i] }
/-- A Ranger in the state st with timeout enable en, left cycles left and c ticks counted. -/
def rngIn (st : RangerState) (en : Bool) (left c : BitVec 32) : Ranger :=
  { State.reset.rng with st := st, tmoEn := en, tmoLeft := left, rcnt := c }
/-- A freshly loaded voice: A, octave 2, LOUD, one repeat, slots of two cycles. -/
def fresh : Voice := { Voice.reset with act := true, note := 5#4, oct := 2#2, div := .loud, reps := 1#32, per := 2#16 }
/-- A melody in progress before note k, saved PlaybackState (E, 2). -/
def firing (k : BitVec 4) : Sequencer :=
  { st := .firing, idleCnt := 0#32, melIdx := k, snapNote := 2#4, snapOct := 2#2 }

/-! ### WellFormed: each check refuses an ill-formed term -/

theorem test_wellFormed_refuses_note9 : (Instr.play 9#4 1#2 10#16).wellFormed = false := by decide
theorem test_wellFormed_refuses_octave3 : (Instr.play 0#4 3#2 0#16).wellFormed = false := by decide

/-! ### Decoding: words written bit by bit from 30_encoding.md section 1 -/

theorem test_decode_nop : decode 0b00000000000000000000000000000000#32 = .ok .nop := by decide
theorem test_decode_measure : decode 0b00000000000000000000000000000001#32 = .ok .measure := by decide
theorem test_decode_rearm : decode 0b00000000000000000000000000000011#32 = .ok .rearm := by decide
/-- DUR 500, OCT 1, NOTE 7 (95_test_vectors.md section 2.7). -/
theorem test_decode_play : decode 0b00000001111101000000000101110010#32 = .ok (.play 7#4 1#2 500#16) := by decide
theorem test_decode_reserved4to7 : decode 0b00000000000000000000000000000110#32 = .ok (.reserved4to7 2#2 0#28) := by decide
theorem test_decode_reserved8toF :
    decode 0b10000000000000000000000000001001#32 = .ok (.reserved8toF 1#3 0x8000000#28) := by decide
/-- 0x00000010 (section 2.7), 0x00000402 (section 2.5): a reserved field is not 0. -/
theorem test_decode_refuses_reserved_fields :
    decode 0x00000010#32 = .error (.reservedFieldNotZero 0#4) ∧
    decode 0x00000402#32 = .error (.reservedFieldNotZero 2#4) := by decide
/-- 0x000A0192 and 0x00000302 (section 2.5). -/
theorem test_decode_refuses_operands :
    decode 0x000A0192#32 = .error (.reservedNote 9#4) ∧ decode 0x00000302#32 = .error .reservedOctave := by decide
/-- The bytes of 0x01F40102 as a little-endian bridge lays them out (R54). -/
theorem test_decodeBytes_little_endian :
    decodeBytes [0x02#8, 0x01#8, 0xF4#8, 0x01#8] = .ok (.play 0#4 1#2 500#16, []) := by decide
theorem test_decodeTableWord :
    decodeTableWord 32 0x03E80252 = some (.play 5#4 2#2 1000#16) ∧ decodeTableWord 32 0x00000302 = none := by decide

/-! ### The commands -/

theorem test_nop : nextHas (step (tinyOn (cmd 0#32))) (fun t => decide (t.sticky = 0#9 ∧ t.seq.idleCnt = 2#32)) = true := by
  decide
/-- SETTLE_CYC is 32 at the reference parameters (R9); the word placed by withFetchWord runs in the first cycle. -/
theorem test_measure_from_reset :
    nextHas (step (State.reset.withFetchWord 32 1))
      (fun t => decide (t.rng.st = .trigLow ∧ t.rng.rtim = 32#16 ∧ t.seq.idleCnt = 479999999#32)) = true := by decide
/-- ERR_BUSY is STATUS 0x800 and RNG_BUSY 0x001 (Program 2, cycle 10). -/
theorem test_measure_busy :
    nextHas (runOn [cmd 1#32, cmd 1#32] State.reset) (fun t => decide (memRead t 0x04#8 = 0x801#32)) = true := by decide
/-- FV: REPS 130, PER 612, DIV 1; PLAYST reads 0x10 (section 2.5). -/
theorem test_play_c1_500 :
    nextHas (stepOn (cmd 0x01F40102#32) loud)
      (fun t => decide (t.fv = ⟨true, 0#4, 1#2, .loud, 130#32, 0#7, 0#16, 612#16⟩ ∧ memRead t 0x20#8 = 0x10#32)) = true := by
  decide
/-- VLEVEL = MUTE: SYN_DONE (0x40), PLAYST 0x10, no voice (Program 2, cycles 306 to 308). -/
theorem test_play_muted :
    nextHas (stepOn (cmd 0x01F40102#32) State.reset)
      (fun t => decide (memRead t 0x04#8 = 0x40#32 ∧ memRead t 0x20#8 = 0x10#32 ∧ t.fv.act = false)) = true := by decide
/-- R100, S7: a REARM in the cycle in which IDLE_CNT is 1 reloads it and starts no melody. -/
theorem test_rearm_in_expiry_cycle :
    nextHas (runOn [q, q, cmd 3#32] (State.resetOf tiny))
      (fun t => decide (t.seq.idleCnt = 3#32 ∧ t.seq.st = .armed ∧ t.statusWord = 0#32)) = true := by decide
/-- ERR_LOCK is STATUS bit 12. -/
theorem test_rearm_firing :
    nextHas (exec .rearm { State.reset with seq := firing 1#4 })
      (fun t => decide (memRead t 0x04#8 = 0x1004#32 ∧ t.seq.idleCnt = 0#32)) = true := by decide
/-- ERR_CMD is STATUS 0x400 (Program 2, cycles 2 and 3). -/
theorem test_reserved_words :
    nextHas (step (State.reset.withFetchWord 32 4)) (fun t => decide (t.statusWord = 0x400#32)) = true ∧
    nextHas (step (State.reset.withFetchWord 32 0xFFFFFFFF)) (fun t => decide (t.statusWord = 0x400#32)) = true := by decide
/-- 0x000A0192, note 9: ERR_CMD only (Program 2, cycle 4). -/
theorem test_rejected_word :
    nextHas (stepOn (cmd 0x000A0192#32) loud)
      (fun t => decide (t.statusWord = 0x400#32 ∧ t.play = loud.play ∧ t.fv = loud.fv)) = true := by decide

/-! ### The units -/

/-- Dist of section 2.1: N = 8481, 10178, 42405 and the saturated count. -/
theorem test_dist :
    distOf Params.reference 8481#32 = 655369#32 ∧ distOf Params.reference 10178#32 = 786504#32 ∧
    distOf Params.reference 42405#32 = 3276846#32 ∧ distOf Params.reference 0xFFFFFFFF#32 = 4294967295#32 := by decide
/-- A negative duration offset stops at 0 (section 2.1): TICK_OFFSET_Q16 = -8192, N = 1 and 3. -/
theorem test_dist_offset :
    distOf { Params.reference with tickOffset := 0xFFFFE000#32 } 1#32 = 0#32 ∧
    distOf { Params.reference with tickOffset := 0xFFFFE000#32 } 3#32 = 77#32 := by decide
/-- The band edges of section 2.3. -/
theorem test_noteFor_edges :
    noteFor Params.reference 655359#32 = 8#4 ∧ noteFor Params.reference 655360#32 = 7#4 ∧
    noteFor Params.reference 983039#32 = 7#4 ∧ noteFor Params.reference 983040#32 = 6#4 ∧
    noteFor Params.reference 3276799#32 = 0#4 ∧ noteFor Params.reference 3276800#32 = 8#4 := by decide
/-- R-T5 in small: TMO_LEFT = 1, COUNT, echo = 1. -/
theorem test_timeout_in_count :
    nextHas (stepOn hi { State.reset with rng := rngIn .count true 1#32 50#32 })
      (fun t => decide (t.rng.pwcnt = 50#32 ∧ t.rng.dist = 0xFFFFFFFF#32 ∧ t.statusWord = 0x30#32)) = true := by decide
/-- R-T7: normal completion wins. -/
theorem test_completion_wins :
    nextHas (stepOn q { State.reset with rng := rngIn .count true 1#32 49#32 })
      (fun t => decide (t.rng.st = .convert ∧ t.rng.tmoLeft = 1#32 ∧ t.statusWord = 0x1#32)) = true := by decide
/-- R-T8: ERR_BUSY, and the measurement ends normally in the same cycle. -/
theorem test_measure_in_convert :
    nextHas (stepOn (cmd 1#32) { State.reset with rng := rngIn .convert false 0#32 10#32 })
      (fun t => decide (t.rng.dist = 772#32 ∧ t.statusWord = 0x810#32)) = true := by decide
/-- Section 2.8: RNG_DONE set by CONVERT wins over a clear in the same cycle. -/
theorem test_set_wins_over_clear :
    nextHas (stepOn (q.withWrite 0x04#8 0x10#32) { State.reset with rng := rngIn .convert false 0#32 10#32 })
      (fun t => t.flag .rngDone) = true := by decide
/-- The boundary values of section 2.4. -/
theorem test_volume_levels :
    volumeLevel 499#16 = .loud ∧ volumeLevel 500#16 = .soft ∧ volumeLevel 3500#16 = .soft ∧
    volumeLevel 3501#16 = .mute := by decide
/-- Strobes in two cycles, data 100 then 4000 (section 2.4); VOL reads LOUD at [17:16], ADC_PEND at [18]. -/
theorem test_capture_wins :
    nextHas (runOn [{ q with adcDone := true, adcData := 100#16 }, { q with adcDone := true, adcData := 4000#16 }]
      (State.resetOf tiny)) (fun t => decide (memRead t 0x1C#8 = 0x50064#32 ∧ t.adc.data = 4000#16)) = true := by decide
/-- Samples of section 2.5: index 25, 51 and 99. -/
theorem test_samples :
    sample Params.reference 25#7 .loud = 4095#16 ∧ sample Params.reference 51#7 .soft = 1984#16 ∧
    sample Params.reference 99#7 .loud = 1919#16 := by decide
/-- Slot lengths and repeat counts of section 2.5: D at octave 2 (545 odd), B 2 65535, high-c 1 1. -/
theorem test_slot_and_repeats :
    slotLength Params.reference 1 2#2 = 272#16 ∧ repeatCount Params.reference 6 2#2 65535#16 = 64725#32 ∧
    repeatCount Params.reference 7 1#2 1#16 = 0#32 := by decide
/-- Section 2.6: expiry with PLAYST = (E, 2): SNAP = (E, 2), CUR_OCT = 1. -/
theorem test_expiry :
    nextHas (runOn [q, q, q] { State.resetOf tiny with play := ⟨2#4, 2#2⟩ })
      (fun t => decide (t.seq = firing 0#4 ∧ t.play = ⟨2#4, 1#2⟩ ∧ t.statusWord = 0x84#32)) = true := by decide
/-- Section 2.6: eight no-op notes while muted, then the exit restores (E, 2). -/
theorem test_melody_muted :
    nextHas (runOn [q, q, q, q, q, q, q, q, q] { State.resetOf tiny with seq := firing 0#4, play := ⟨2#4, 1#2⟩ })
      (fun t => decide (memRead t 0x20#8 = 0x22#32 ∧ t.seq.st = .armed ∧ t.seq.idleCnt = 3#32 ∧ t.statusWord = 0x100#32)) =
      true := by decide
/-- Section 2.8: OCTSEL reads 0xA for btn2 alone and 0xC for both. -/
theorem test_octsel :
    nextHas (stepOn { q with btn2 := true } State.reset) (fun t => decide (memRead t 0x24#8 = 0xA#32)) = true ∧
    nextHas (stepOn { q with btn1 := true, btn2 := true } State.reset)
      (fun t => decide (memRead t 0x24#8 = 0xC#32 ∧ t.outputs.led1 = false)) = true := by decide
/-- Section 2.8: what the registers read after reset. -/
theorem test_reset_reads :
    nextHas (stepOn rs loud)
      (fun t => decide (memRead t 0x04#8 = 0#32 ∧ memRead t 0x20#8 = 0x08#32 ∧ memRead t 0x1C#8 = 0#32 ∧
        memRead t 0x30#8 = 0x800#32 ∧ memRead t 0x28#8 = 480000000#32 ∧ memRead t 0x2C#8 = 0x80#32)) = true := by decide
/-- Section 2.8: IRQ_EN reads 0x1FF0 after a write of all ones; a read at 0x05 reads STATUS. -/
theorem test_irqEn_and_low_address_bits :
    nextHas (stepOn (q.withWrite 0x08#8 0xFFFFFFFF#32) State.reset)
      (fun t => decide (memRead t 0x08#8 = 0x1FF0#32 ∧ memRead t 0x05#8 = t.statusWord)) = true := by decide

/-! ### Witnesses: concrete states and operands that meet all hypotheses of a statement together -/

/-- A next state with the property f exists where nextHas says so. -/
theorem next_of_nextHas {r : Result} {f : State → Bool} (h : nextHas r f = true) : ∃ t, r = .next t ∧ f t = true := by
  unfold nextHas at h
  split at h
  · exact ⟨_, rfl, h⟩
  · cases h
  · cases h

/-- `EachCycle` as a Bool, for a condition that is one. -/
def eachHas (c : State → CycleInput → Bool) : List CycleInput → State → Bool
  | [], _ => true
  | i :: is, s => c s i && nextHas (stepOn i s) (eachHas c is)

theorem eachCycle_of_eachHas {C : State → CycleInput → Prop} {c : State → CycleInput → Bool}
    (hc : ∀ w i, c w i = true → C w i) {is : List CycleInput} {s : State} (h : eachHas c is s = true) :
    EachCycle C is s := by
  induction is generalizing s with
  | nil => trivial
  | cons i is ih =>
    simp only [eachHas, Bool.and_eq_true] at h
    obtain ⟨t, ht, h2⟩ := next_of_nextHas h.2
    exact (eachCycle_cons_next ht).2 ⟨hc _ _ h.1, ih h2⟩

/-- Every cycle of the run starts ARMED. -/
def armedRun : List CycleInput → State → Bool := eachHas fun w _ => decide (w.seq.st = .armed)
theorem armedRun_eachCycle {is : List CycleInput} {s : State} (h : armedRun is s = true) :
    EachCycle (fun w _ => w.seq.st = .armed) is s :=
  eachCycle_of_eachHas (fun _ _ => of_decide_eq_true) h
/-- No COUNT cycle of the run samples `echo` = 0. -/
def countsHigh : List CycleInput → State → Bool := eachHas fun w i => decide (w.rng.st = .count → i.echo = true)
theorem countsHigh_eachCycle {is : List CycleInput} {s : State} (h : countsHigh is s = true) :
    EachCycle (fun w i => w.rng.st = .count → i.echo = true) is s :=
  eachCycle_of_eachHas (fun _ _ => of_decide_eq_true) h
/-- A cycle with a REARM from a valid ARMED state leads to one: no melody starts (R100). -/
theorem rearm_keeps_armed {w t : State} (hw : w.cfg.Valid ∧ w.seq.st = .armed) (h : stepOn (cmd 3#32) w = .next t) :
    t.cfg.Valid ∧ t.seq.st = .armed := by
  have hb : busAccess (cmd 3#32) (w.withInput (cmd 3#32)) = .next (w.withInput (cmd 3#32)).reloadIdle := by
    show cmdWrite _ 3#32 = _
    simp [cmdWrite, test_decode_rearm, exec, execRearm, hw.2]
  have hre : rearmAccepted (cmd 3#32) (w.withInput (cmd 3#32)) = true := by
    simp [rearmAccepted, show cmdWord (cmd 3#32) = some 3#32 from rfl, test_decode_rearm, hw.2]
  rw [stepOn_live hw.1 rfl hb] at h
  cases h
  obtain ⟨u, hc, hs, -, -, h1, -⟩ := unitsCycle_sequencer (cmd 3#32) (w.withInput (cmd 3#32)) (w.withInput (cmd 3#32)).reloadIdle
  refine ⟨by simpa using hw.1, ?_⟩
  simp [h1, sequencerCycle, hw.2, hre, hs]

/-- A state of a melody: MV plays note 0, FV is frozen, a measurement counts with a timeout. -/
def melody : State :=
  { State.resetOf tiny with
    rng := rngIn .count true 4#32 2#32
    adc := { State.reset.adc with vlevel := .loud }
    fv := fresh
    mv := { fresh with note := 0#4, oct := 1#2 }
    seq := firing 1#4
    play := { note := 0#4, oct := 1#2 } }

/-- The fourteen parts of the invariant, each decided by itself. -/
theorem melody_inv : melody.Inv :=
  ⟨by decide, by decide, by decide, by decide, by decide, by decide, by decide, by decide, by decide, by decide, by decide,
    by decide, by decide, by decide⟩
theorem playing_inv : ({ loud with fv := fresh } : State).Inv :=
  ⟨by decide, by decide, by decide, by decide, by decide, by decide, by decide, by decide, by decide, by decide, by decide,
    by decide, by decide, by decide⟩

theorem witness_DecodeOfEncode : (Instr.play 8#4 2#2 65535#16).wellFormed = true := by decide
theorem witness_EncodeOfDecode : decode 0xFFFF0282#32 = .ok (.play 8#4 2#2 65535#16) := by decide
theorem witness_IllegalWord :
    IllegalWord 0x00000010#32 ∧ IllegalWord 0x00000402#32 ∧ IllegalWord 0x00000092#32 ∧ IllegalWord 0x00000302#32 ∧
    IllegalWord 0x00000004#32 ∧ ¬ IllegalWord 0x00000082#32 ∧ ¬ IllegalWord 0x00000003#32 :=
  ⟨by decide, by decide, by decide, by decide, by decide, by decide, by decide⟩
theorem witness_Measure :
    State.reset.cfg.Valid ∧ State.reset.rng.st = .idle ∧ melody.cfg.Valid ∧ melody.rng.st ≠ .idle := by decide
theorem witness_PlayLoads :
    (1#2 = 1#2 ∨ 1#2 = 2#2) ∧ loud.seq.st = .armed ∧ loud.fv.act = false ∧ loud.adc.vlevel ≠ .mute ∧
    repsNat loud.cfg 7 1#2 2#16 = 1 := by decide
theorem witness_SilentPlay :
    (8#4 : NoteCode).toNat ≤ 8 ∧ (0#2 : OctCode) ≠ 3#2 ∧ loud.seq.st = .armed ∧ loud.fv.act = false ∧ PlayIsNoOp loud 8#4 0#2 0#16 ∧
    PlayIsNoOp loud 7#4 0#2 500#16 ∧ PlayIsNoOp State.reset 0#4 1#2 500#16 ∧ repsNat loud.cfg 7 1#2 1#16 = 0 := by decide
theorem witness_SilentPlay_no_repeats : PlayIsNoOp loud 7#4 1#2 1#16 :=
  .inr (.inr (.inr ⟨7, by decide, by decide⟩))
theorem witness_PlayRefusals :
    8 < (9#4 : NoteCode).toNat ∧ (8#4 : NoteCode).toNat ≤ 8 ∧ (2#2 : OctCode) ≠ 3#2 ∧ melody.seq.st = .firing ∧
    ({ loud with fv := fresh } : State).seq.st = .armed ∧ ({ loud with fv := fresh } : State).fv.act = true := by decide
theorem witness_Rearm : State.reset.seq.st = .armed ∧ melody.seq.st = .firing := by decide
theorem witness_CommandRaises :
    IllegalWord 0x00000013#32 ∧
    (¬ IllegalWord 0x01F40102#32 ∧ (0x01F40102#32 : Word).toNat % 16 = 2 ∧ melody.seq.st = .firing) ∧
    (¬ IllegalWord 0x00000003#32 ∧ (0x00000003#32 : Word).toNat % 16 = 3) ∧
    (({ loud with fv := fresh } : State).seq.st = .armed ∧ ({ loud with fv := fresh } : State).fv.act = true) ∧
    (¬ IllegalWord 0x00000001#32 ∧ (0x00000001#32 : Word).toNat % 16 = 1 ∧ melody.rng.st ≠ .idle) ∧
    (loud.seq.st = .armed ∧ loud.fv.act = false ∧ loud.rng.st = .idle) := by decide
theorem witness_StepRunsDecoded :
    ∃ t, exec .rearm (tinyOn (cmd 3#32)) = .next t ∧ (tinyOn (cmd 3#32)).cfg.Valid ∧
      (tinyOn (cmd 3#32)).input.rst = false ∧ cmdWord (tinyOn (cmd 3#32)).input = some 3#32 ∧
      decode 3#32 = .ok .rearm :=
  ⟨_, rfl, by decide, by decide, by decide, by decide⟩
theorem witness_StepIsTotal :
    (State.resetOf tiny).cfg.Valid ∧ ¬ ({ tiny with idleTicks := 0#32 } : Params).Valid ∧
    ¬ ({ tiny with dacCenter := 4096#16 } : Params).Valid ∧ ({ tiny with dacCenter := 4095#16 } : Params).Valid := by
  decide
theorem witness_NopCycle : cmdWord (cmd 0#32) = some 0x00000000#32 := by decide
theorem witness_ReadHasNoSideEffect :
    (q.withRead 0x30#8).busEn = true ∧ (q.withRead 0x30#8).busWe = false ∧ (q.withRead 0x30#8).rst = false := by decide
theorem witness_ReadOnlyWrite :
    (q.withWrite 0x10#8 7#32).busEn = true ∧ (q.withWrite 0x10#8 7#32).busWe = true ∧ (slotOf 0x10#8).toNat = 4 ∧
    (slotOf 0xFC#8).toNat = 63 ∧ slotOf 0x04#8 = 1#6 ∧ (15#32 : Word).toNat < 16 := by decide
theorem witness_RefusedCommand :
    melody.cfg.Valid ∧ (cmd 1#32).live ∧ commandRaises (cmd 1#32) melody = some .errBusy ∧
    commandRaises (cmd 3#32) melody = some .errLock ∧ commandRaises (cmd 0x10#32) melody = some .errCmd := by decide
/-- For the statements about a cycle without reset in any state (StickyBitsFollowSetAndClear, OctaveFollowsButtons). -/
theorem witness_live_state : (tinyOn q).cfg.Valid ∧ (tinyOn q).input.rst = false ∧ (tinyOn q).input.echo = false := by
  decide
theorem witness_StepKeepsInvariant :
    ∃ t, step ({ melody with script := [hi] } : State) = .next t ∧ ({ melody with script := [hi] } : State).Inv := by
  obtain ⟨t, h, -⟩ := next_of_nextHas (r := step ({ melody with script := [hi] } : State)) (f := fun _ => true) (by decide)
  exact ⟨t, h, melody_inv⟩
theorem witness_ResetMeetsInvariant : tiny.Valid ∧ Params.reference.Valid := by decide
theorem witness_StepKeepsParameters : ∃ t, step (tinyOn rs) = .next t := by
  obtain ⟨t, h, -⟩ := next_of_nextHas (r := step (tinyOn rs)) (f := fun _ => true) (by decide)
  exact ⟨t, h⟩
/-- PLAYST changed by a PLAY, by melody entry, by a melody note, by melody exit: one state for each writer. -/
theorem witness_PlaystHasFourWriters :
    nextHas (step (tinyOn (cmd 0x82#32)) ) (fun t => decide (t.play ≠ ⟨0#4, 0#2⟩)) = true ∧
    nextHas (step ({ tinyOn (cmd 0x00000172#32) with play := ⟨8#4, 0#2⟩ } : State))
      (fun t => decide (t.play ≠ ⟨8#4, 0#2⟩)) = true ∧
    nextHas (step ({ tinyOn q with seq := { (tinyOn q).seq with idleCnt := 1#32 } } : State))
      (fun t => decide (t.play ≠ (tinyOn q).play)) = true ∧
    nextHas (step ({ tinyOn q with seq := firing 7#4 } : State)) (fun t => decide (t.play ≠ (tinyOn q).play)) = true ∧
    nextHas (step ({ tinyOn q with seq := firing 8#4 } : State)) (fun t => decide (t.play ≠ (tinyOn q).play)) = true := by
  decide
theorem witness_ResetCycle :
    (tinyOn { rs with busEn := true }).cfg.Valid ∧ (tinyOn { rs with busEn := true }).input.rst = true ∧
    (tinyOn { rs with busEn := true }).input.busEn = true ∧ (tinyOn { rs with busEn := true }).input.busWe = false := by
  decide
theorem witness_HoldingReset : melody.cfg.Valid ∧ [rs, rs] ≠ [] ∧ ∀ i ∈ [rs, rs], i.rst = true := by decide
theorem witness_OutputsAfterReset :
    ∃ t, step (tinyOn rs) = .next t ∧ (tinyOn rs).input.rst = true ∧ 1 ≤ (tinyOn rs).cfg.bandMin.toNat := by
  obtain ⟨t, h⟩ := witness_StepKeepsParameters
  exact ⟨t, h, by decide, by decide⟩
/-- Boundary bits of STATUS: each clause of the chain. -/
theorem witness_StatusReadBits :
    slotOf 0x04#8 = 1#6 ∧ slotOf 0x07#8 = 1#6 ∧ memRead ({ melody with sticky := 0x101#9 } : State) 0x07#8 = 0x1017#32 ∧
    (List.range 32).filter (fun k => ({ melody with sticky := 0x101#9 } : State).statusWord.getLsbD k) =
      [0, 1, 2, 4, 12] := by decide
theorem witness_IrqEnable :
    slotOf 0x08#8 = 2#6 ∧ slotOf 0x0B#8 = 2#6 ∧ melody.cfg.Valid ∧
    ((q.withWrite 0x08#8 0x20#32).live ∧ (q.withWrite 0x08#8 0x20#32).busEn = true ∧
      (q.withWrite 0x08#8 0x20#32).busWe = true ∧ slotOf (q.withWrite 0x08#8 0x20#32).busAddr = 2#6) ∧
    ((q.withWrite 0x0C#8 5#32).live ∧ slotOf (q.withWrite 0x0C#8 5#32).busAddr ≠ 2#6) := by decide
theorem witness_Tmo :
    melody.cfg.Valid ∧ (q.withWrite 0x0C#8 5#32).live ∧ (q.withWrite 0x0C#8 5#32).busEn = true ∧
    (q.withWrite 0x0C#8 5#32).busWe = true ∧ slotOf (q.withWrite 0x0C#8 5#32).busAddr = 3#6 ∧
    (q.withWrite 0x08#8 5#32).live ∧ slotOf (q.withWrite 0x08#8 5#32).busAddr ≠ 3#6 ∧ melody.rng.st = .count := by decide
theorem witness_ReadOnlyRegisterFields :
    13 ≤ (13#6 : BitVec 6).toNat ∧ 13 ≤ (63#6 : BitVec 6).toNat ∧ regRead melody 11#6 = 0xE21#32 := by decide
theorem witness_IrqIsEnabledSticky :
    ({ melody with sticky := 0x100#9, irqEn := 0x100#9 } : State).irq = true ∧
    ({ melody with sticky := 0x001#9, irqEn := 0x100#9 } : State).irq = false := by decide
theorem witness_TriggerPulse :
    (State.resetOf tiny).cfg.Valid ∧
    ({ State.resetOf tiny with rng := State.reset.rng.start tiny } : State).rng.st = .trigLow ∧
    ({ State.resetOf tiny with rng := State.reset.rng.start tiny } : State).rng.rtim.toNat = tiny.settleCyc ∧
    (∀ i ∈ [q, hi], i.live) ∧ [q, hi].length ≤ tiny.settleCyc + tiny.pulseCyc := by decide
theorem witness_TimeoutIsLatched :
    (tinyOn q).cfg.Valid ∧ (tinyOn q).input.rst = false ∧
    ({ tinyOn q with rng := { rngIn .trigHigh false 0#32 0#32 with rtim := 1#16 } } : State).rng.st = .trigHigh ∧
    ({ tinyOn q with rng := { rngIn .trigHigh false 0#32 0#32 with rtim := 1#16 } } : State).rng.rtim = 1#16 := by decide
/-- From WAIT_STALE with one cycle more than the stale level, the gap and the pulse take. -/
theorem witness_EchoPulse :
    tiny.Valid ∧ (rngIn .waitStale true 4#32 0#32).st = .waitStale ∧ [q] ≠ [] ∧
    [hi].length + [q].length + [hi].length < (rngIn .waitStale true 4#32 0#32).tmoLeft.toNat ∧
    (∀ i ∈ [hi], i.live ∧ i.echo = true) ∧ (∀ i ∈ [q], i.live ∧ i.echo = false) ∧ [hi] ≠ [] ∧ q.live ∧ q.echo = false ∧
    hi.live := by decide
/-- From WAIT_RISE, with no gap and no timeout. -/
theorem witness_EchoPulse_from_waitRise :
    (rngIn .waitRise false 0#32 0#32).st = .waitRise ∧ (rngIn .waitRise false 0#32 0#32).tmoEn = false ∧
    (∀ i ∈ ([] : List CycleInput), i.live ∧ i.echo = true) := by decide
/-- R-T5 in small: from WAIT_RISE, T = 3, the echo rises in the second cycle, the timeout falls in COUNT. -/
theorem witness_TimeoutFires :
    ∀ s : State, s = { State.resetOf tiny with rng := rngIn .waitRise true 3#32 0#32 } →
      s.cfg.Valid ∧ s.rng.tmoEn = true ∧ s.rng.st = .waitRise ∧ 1 ≤ s.rng.tmoLeft.toNat ∧
      [q, hi, hi].length = s.rng.tmoLeft.toNat ∧ [q, hi].length < s.rng.tmoLeft.toNat ∧ (∀ i ∈ [q, hi, hi], i.live) ∧
      EachCycle (fun w i => w.rng.st = .count → i.echo = true) [q, hi, hi] s ∧
      [q, hi, hi] = [] ++ [q] ++ [hi, hi] ∧ (∀ i ∈ [q], i.echo = false) ∧ (∀ i ∈ [hi, hi], i.echo = true) := by
  rintro s rfl
  exact ⟨by decide, rfl, rfl, by decide, by decide, by decide, by decide, countsHigh_eachCycle (by decide), rfl, by decide,
    by decide⟩
/-- From WAIT_STALE with the echo staying high, and with stale, gap and pulse; from COUNT. -/
theorem witness_TimeoutFires_stale_and_count :
    EachCycle (fun w i => w.rng.st = .count → i.echo = true) [hi, hi, hi]
      { State.resetOf tiny with rng := rngIn .waitStale true 3#32 0#32 } ∧
    EachCycle (fun w i => w.rng.st = .count → i.echo = true) ([hi] ++ [q] ++ [hi])
      { State.resetOf tiny with rng := rngIn .waitStale true 3#32 0#32 } ∧
    EachCycle (fun w i => w.rng.st = .count → i.echo = true) [hi, hi, hi]
      { State.resetOf tiny with rng := rngIn .count true 3#32 7#32 } ∧ [q] ≠ [] ∧ (∀ i ∈ [hi], i.echo = true) :=
  ⟨countsHigh_eachCycle (by decide), countsHigh_eachCycle (by decide), countsHigh_eachCycle (by decide), by decide, by decide⟩
/-- The reset state at the parameters `tiny` with the Ranger r, the coming cycle's inputs i. -/
def rangerOn (i : CycleInput) (r : Ranger) : State := { tinyOn i with rng := r }
/-- Completion and timeout in the cycle with TMO_LEFT = 1, and cycles without a timeout in the three waiting phases. -/
theorem witness_CompletionWins :
    (tinyOn q).cfg.Valid ∧ (tinyOn q).input.rst = false ∧ (tinyOn q).input.echo = false ∧ (tinyOn hi).input.rst = false ∧
    (tinyOn hi).input.echo = true ∧ TimeoutCycle hi (rangerOn hi (rngIn .count true 1#32 49#32)) ∧
    TimeoutCycle q (rangerOn q (rngIn .waitRise true 1#32 0#32)) ∧
    ¬ TimeoutCycle q (rangerOn q (rngIn .count true 1#32 49#32)) ∧
    ¬ TimeoutCycle hi (rangerOn hi (rngIn .waitStale true 2#32 0#32)) ∧
    ¬ TimeoutCycle hi (rangerOn hi (rngIn .waitRise false 1#32 0#32)) ∧
    ¬ TimeoutCycle hi (rangerOn hi (rngIn .count true 2#32 49#32)) := by
  unfold TimeoutCycle
  decide
/-- IDLE without and with a MEASURE, the trigger phases at and above RTIM = 1. -/
theorem witness_CompletionWins_idle_and_trigger :
    (tinyOn q).rng.st = .idle ∧ cmdWord (tinyOn q).input ≠ some 0x00000001#32 ∧
    (tinyOn (cmd 1#32)).rng.st = .idle ∧ (tinyOn (cmd 1#32)).input.rst = false ∧
    cmdWord (tinyOn (cmd 1#32)).input = some 0x00000001#32 ∧
    (State.reset.rng.start tiny).st = .trigLow ∧ (State.reset.rng.start tiny).rtim = 1#16 ∧
    (State.reset.rng.start Params.reference).rtim ≠ 1#16 ∧
    ({ rngIn .trigHigh false 0#32 0#32 with rtim := 1#16 } : Ranger).st = .trigHigh := by decide
theorem witness_UnboundedWait :
    tiny.Valid ∧ (rngIn .waitRise false 0#32 0#32).tmoEn = false ∧ (rngIn .waitRise false 0#32 0#32).st = .waitRise ∧
    (∀ i ∈ [q, q], i.live ∧ i.echo = false) ∧ (cmd 1#32).live ∧ (cmd 1#32).echo = false ∧
    cmdWord (cmd 1#32) = some 0x00000001#32 := by decide
theorem witness_Distance :
    (4096 : Int) = max 0 ((1#32 : BitVec 32).toNat * Params.reference.tickScale.toNat + Params.reference.tickOffset.toInt) ∧
    (70 : Nat) = 4096 * Params.reference.sos.toNat / 2 ^ 17 ∧ (1#32 : BitVec 32).toNat ≤ (2#32 : BitVec 32).toNat := by
  decide
theorem witness_Independent :
    ∃ s' t', stepOn hi melody = .next s' ∧ stepOn hi ({ melody with sticky := 0x1FF#9, irqEn := 1#9 } : State) = .next t' ∧
      melody.cfg = ({ melody with sticky := 0x1FF#9, irqEn := 1#9 } : State).cfg := by
  obtain ⟨s', h, -⟩ := next_of_nextHas (r := stepOn hi melody) (f := fun _ => true) (by decide)
  obtain ⟨t', h', -⟩ := next_of_nextHas
    (r := stepOn hi ({ melody with sticky := 0x1FF#9, irqEn := 1#9 } : State)) (f := fun _ => true) (by decide)
  exact ⟨s', t', h, h', rfl⟩
theorem witness_NoteForIsClosedForm :
    bandLow Params.reference 0 ≤ (655360#32 : BitVec 32).toNat ∧ (983039#32 : BitVec 32).toNat < bandHigh Params.reference 0 ∧
    bandLow Params.reference 7 ≤ (3276799#32 : BitVec 32).toNat ∧
    (3276799#32 : BitVec 32).toNat < bandHigh Params.reference 7 := by decide
theorem witness_SourceExamples :
    648807 ≤ Params.reference.bandMin.toNat ∧ Params.reference.bandMin.toNat ≤ 720896 ∧
    (648807#32 : BitVec 32).toNat = 648807 ∧ (720896#32 : BitVec 32).toNat = 720896 := by decide
/-- A note in progress, longer than the idle interval of three cycles: a REARM keeps the run ARMED. -/
theorem witness_ForegroundNote :
    ∀ s : State, s = { State.resetOf tiny with fv := fresh } →
      s.cfg.Valid ∧ s.fv.act = true ∧ s.fv.idx = 0#7 ∧ s.fv.wait = 0#16 ∧ 1 ≤ s.fv.reps.toNat ∧ 1 ≤ s.fv.per.toNat ∧
      (∀ i ∈ [q, cmd 3#32, q, hi], i.live) ∧
      EachCycle (fun w _ => w.seq.st = .armed) [q, cmd 3#32, q, hi] s ∧
      s.cfg.idleTicks.toNat < [q, cmd 3#32, q, hi].length ∧
      [q, cmd 3#32, q, hi].length ≤ 100 * s.fv.reps.toNat * s.fv.per.toNat := by
  rintro s rfl
  exact ⟨by decide, rfl, rfl, rfl, by decide, by decide, by decide, armedRun_eachCycle (by decide), by decide, by decide⟩
/-- The last cycle of the note, in a run with a REARM in every cycle. -/
theorem witness_ForegroundNote_end :
    ∀ s : State, s = { State.resetOf tiny with fv := fresh } →
      (List.replicate 201 (cmd 3#32)).length = 100 * s.fv.reps.toNat * s.fv.per.toNat + 1 ∧
      (∀ i ∈ List.replicate 201 (cmd 3#32), i.live) ∧
      EachCycle (fun w _ => w.seq.st = .armed) (List.replicate 201 (cmd 3#32)) s := by
  rintro s rfl
  refine ⟨by rw [List.length_replicate]; decide, fun i h => ?_, ?_⟩
  · rw [List.eq_of_mem_replicate h]
    decide
  · have := eachCycle_of_kept (I := fun w => w.cfg.Valid ∧ w.seq.st = .armed) (is := List.replicate 201 (cmd 3#32))
      (s := { State.resetOf tiny with fv := fresh }) (by decide)
      (fun i h w t hw ht => rearm_keeps_armed hw (List.eq_of_mem_replicate h ▸ ht))
    exact eachCycle_mono (fun _ _ h => h.2) this
/-- Sample 0 in the first cycle of its slot (j = 0) and held in the second (j = 1); MV plays while FIRING, FV while ARMED. The last
sample, k = 99, is within 100 R. -/
theorem witness_VoiceWrites :
    ∀ s : State, s = { State.resetOf tiny with fv := fresh } →
      s.cfg.Valid ∧ (∀ i ∈ [q, hi], i.live) ∧ s.fv.act = true ∧ s.fv.idx = 0#7 ∧ s.fv.wait = 0#16 ∧ s.mv.act = false ∧
      EachCycle (fun w _ => w.seq.st = .armed) [q, hi] s ∧ 0 < 100 * s.fv.reps.toNat ∧ 99 < 100 * s.fv.reps.toNat ∧
      1 < s.fv.per.toNat ∧ [q].length = 0 * s.fv.per.toNat + 0 + 1 ∧ [q, hi].length = 0 * s.fv.per.toNat + 1 + 1 ∧
      melody.cfg.Valid ∧ melody.mv.act = true ∧ melody.mv.idx = 0#7 ∧ melody.mv.wait = 0#16 ∧ melody.seq.st = .firing ∧
      99 < 100 * melody.mv.reps.toNat ∧ [q, hi].length = 0 * melody.mv.per.toNat + 1 + 1 := by
  rintro s rfl
  exact ⟨by decide, by decide, rfl, rfl, rfl, rfl, armedRun_eachCycle (by decide), by decide, by decide, by decide, by decide,
    by decide, by decide, by decide, by decide, by decide, by decide, by decide, by decide⟩
/-- The last sample of the note, k = 99, in a run with a REARM in every cycle. -/
theorem witness_VoiceWrites_last :
    (List.replicate 199 (cmd 3#32)).length = 99 * fresh.per.toNat + 0 + 1 ∧
    EachCycle (fun w _ => w.seq.st = .armed) (List.replicate 199 (cmd 3#32)) { State.resetOf tiny with fv := fresh } := by
  refine ⟨by rw [List.length_replicate]; decide, ?_⟩
  have := (witness_ForegroundNote_end _ rfl).2.2
  rw [show 201 = 199 + 2 from rfl, List.replicate_add] at this
  exact eachCycle_prefix this
theorem witness_Sample : (0#7 : BitVec 7).toNat < 100 ∧ (99#7 : BitVec 7).toNat < 100 ∧ Params.reference.Valid ∧
    VolLevel.soft ≠ .mute := by decide
theorem witness_Dac :
    ({ melody with script := [q] } : State).Inv ∧ ({ melody with script := [q] } : State).input.rst = false ∧
    melody.mv.act = true ∧ melody.mv.wait = 0#16 ∧ melody.mv.reps ≠ 0#32 ∧
    ({ loud with fv := fresh, script := [q] } : State).Inv ∧ ({ loud with fv := fresh } : State).seq.st = .armed :=
  ⟨melody_inv, by decide, by decide, by decide, by decide, playing_inv, by decide⟩
theorem witness_Mute :
    State.reset.cfg.Valid ∧ State.reset.adc.vlevel = .mute ∧ State.reset.adc.pend = false ∧ State.reset.fv.act = false ∧
    State.reset.mv.act = false ∧ State.reset.dac.we = false ∧
    (∀ i ∈ [cmd 0x01F40102#32, q], i.live ∧ i.adcDone = false) := by decide
theorem witness_Frozen :
    ({ melody with script := [q] } : State).cfg.Valid ∧ ({ melody with script := [q] } : State).input.rst = false ∧
    melody.seq.st = .firing ∧ melody.fv.act = true := by
  decide
/-- An ARMED FV in each branch of R88: the end, the last slot of a table walk, another slot, a wait. -/
theorem witness_VoiceSteps :
    ({ loud with fv := fresh } : State).seq.st = .armed ∧ fresh.act = true ∧ fresh.wait = 0#16 ∧ fresh.reps ≠ 0#32 ∧
    fresh.idx ≠ 99#7 ∧ ({ fresh with idx := 99#7 } : Voice).idx = 99#7 ∧ ({ fresh with reps := 0#32 } : Voice).reps = 0#32 ∧
    ({ fresh with wait := 1#16 } : Voice).wait ≠ 0#16 := by decide
/-- A PLAY of A at octave 2 for 1000 ms (0x03E80252, 95_test_vectors.md section 2.6) in the expiry cycle sounds; a quiet cycle has
none. -/
theorem witness_VoiceLoads :
    ∀ s : State, s = { loud with script := [cmd 0x03E80252#32], seq := { loud.seq with idleCnt := 1#32 } } →
      s.cfg.Valid ∧ s.input.rst = false ∧ s.seq.st = .armed ∧ s.fv.act = false ∧ PlaySounds s.input s 5 2#2 1000#16 ∧
      ∀ n oct durMs, ¬ PlaySounds q s n oct durMs := by
  rintro s rfl
  refine ⟨by decide, by decide, rfl, rfl, ⟨⟨_, rfl, by decide⟩, by decide, by decide, by decide⟩, ?_⟩
  rintro n oct durMs ⟨⟨v, h, -⟩, -⟩
  cases h
/-- MV active while FIRING; idle before the last note, sounding and muted; idle after it; idle while ARMED. -/
theorem witness_MelodyVoice :
    melody.mv.act = true ∧ melody.seq.st = .firing ∧ loud.mv.act = false ∧ (firing 7#4).st = .firing ∧
    (firing 7#4).melIdx = BitVec.ofNat 4 7 ∧ loud.adc.vlevel ≠ .mute ∧
    1 ≤ repsNat loud.cfg 7 loud.cfg.melOct loud.cfg.melDurMs ∧ State.reset.adc.vlevel = .mute ∧
    8 ≤ (firing 8#4).melIdx.toNat ∧ loud.seq.st = .armed := by decide
/-- The four boundary values of R97, all within ADC_W bits; a pending and a handled sampler, a strobe and none. -/
theorem witness_AdcEvent :
    tiny.Valid ∧ ({ q with adcDone := true, adcData := 3500#16 } : CycleInput).live ∧ q.live ∧ q.adcDone = false ∧
    ({ State.reset.adc with pend := true, data := 3501#16 } : VolSampler).pend = true ∧ State.reset.adc.pend = false ∧
    (499#16 : BitVec 16).toNat < 500 ∧ (500#16 : BitVec 16).toNat = 500 ∧ (3500#16 : BitVec 16).toNat ≤ 3500 ∧
    3500 < (3501#16 : BitVec 16).toNat ∧ (4095#16 : BitVec 16).toNat < 2 ^ tiny.adcW := by decide
theorem witness_IdleTimer :
    tiny.Valid ∧ (State.resetOf tiny).seq.st = .armed ∧ 1 ≤ (State.resetOf tiny).seq.idleCnt.toNat ∧
    (∀ i ∈ [q, hi, q], i.live ∧ i.rearms = false) ∧ [q, hi, q].length = (State.resetOf tiny).seq.idleCnt.toNat := by decide
/-- An expiry cycle with a PLAY of A at octave 2 in it (95_test_vectors.md section 2.6). -/
theorem witness_Expiry :
    ∀ s : State, s = { tinyOn (cmd 0x03E80252#32) with seq := { (tinyOn q).seq with idleCnt := 1#32 } } →
      s.cfg.Valid ∧ s.input.rst = false ∧ s.seq.st = .armed ∧ s.seq.idleCnt.toNat ≤ 1 ∧ s.input.rearms = false ∧
      acceptedPlay s.input s = some ⟨5#4, 2#2⟩ := by
  rintro s rfl
  decide
theorem witness_RearmWins :
    (tinyOn (cmd 3#32)).cfg.Valid ∧ (tinyOn (cmd 3#32)).input.rst = false ∧ (tinyOn (cmd 3#32)).seq.st = .armed ∧
    (tinyOn (cmd 3#32)).input.rearms = true := by decide
theorem witness_RearmIsIdempotent :
    (cmd 3#32).live ∧ (cmd 3#32).rearms = true ∧ (State.resetOf tiny).seq.st = .armed ∧
    2 ≤ (State.resetOf tiny).seq.idleCnt.toNat := by decide
theorem witness_MelodyNote :
    ∀ s : State, s = { loud with script := [q], seq := firing 7#4 } →
      s.cfg.Valid ∧ s.input.rst = false ∧ s.seq.st = .firing ∧ s.mv.act = false ∧ s.seq.melIdx = BitVec.ofNat 4 7 ∧
      s.adc.vlevel ≠ .mute ∧ repsNat s.cfg 7 s.cfg.melOct s.cfg.melDurMs = 261 := by
  rintro s rfl
  decide
theorem witness_MelodyExit :
    ({ tinyOn q with seq := firing 8#4 } : State).seq.melIdx = 8#4 ∧ ({ tinyOn q with seq := firing 8#4 } : State).seq.st = .firing ∧
    (tinyOn q).mv.act = false ∧ (tinyOn q).cfg.Valid ∧ (tinyOn q).input.rst = false := by decide
/-- The state after the expiry cycle of a run with PLAYST = (E, 2). -/
def roundTripStart : State := { State.resetOf tiny with seq := { (State.resetOf tiny).seq with idleCnt := 1#32 }, play := ⟨2#4, 2#2⟩ }
/-- A run of one muted melody: the expiry cycle, eight notes, the exit cycle. -/
theorem witness_MelodyRoundTrip :
    ∃ s u t, roundTripStart.seq.st = .armed ∧ stepOn q roundTripStart = .next s ∧ s.seq.st = .firing ∧
      (∀ j ∈ List.replicate 8 q, j.live) ∧ q.live ∧
      (∀ k w, k ≤ (List.replicate 8 q).length → runOn ((List.replicate 8 q).take k) s = .next w → w.seq.st = .firing) ∧
      runOn (List.replicate 8 q) s = .next u ∧ stepOn q u = .next t ∧ t.seq.st = .armed := by
  have h : nextHas (stepOn q roundTripStart) (fun s => decide (s.seq.st = .firing) &&
      ((List.range 9).all fun k => nextHas (runOn ((List.replicate 8 q).take k) s) fun w => decide (w.seq.st = .firing)) &&
      nextHas (runOn (List.replicate 8 q) s) fun u =>
        nextHas (stepOn q u) fun t => decide (t.seq.st = .armed)) = true := by decide
  obtain ⟨s, hs, h⟩ := next_of_nextHas h
  simp only [Bool.and_eq_true, decide_eq_true_eq, List.all_eq_true, List.mem_range] at h
  obtain ⟨u, hu, h3⟩ := next_of_nextHas h.2
  obtain ⟨t, ht, h4⟩ := next_of_nextHas h3
  refine ⟨s, u, t, by decide, hs, h.1.1, by decide, by decide, ?_, hu, ht, by simpa using h4⟩
  intro k w hk hw
  have := h.1.2 k (by simp at hk; omega)
  rw [hw] at this
  simpa [nextHas] using this
/-- FV frozen in the middle of a note, a muted melody of eight notes and the exit cycle. -/
theorem witness_ForegroundResumes :
    ∀ s : State, s = { State.resetOf tiny with fv := fresh, seq := firing 0#4 } →
      ∃ t, (∀ j ∈ List.replicate 9 q, j.live) ∧
        (∀ k w, k < (List.replicate 9 q).length → runOn ((List.replicate 9 q).take k) s = .next w → w.seq.st = .firing) ∧
        runOn (List.replicate 9 q) s = .next t ∧ t.seq.st = .armed := by
  rintro s rfl
  have h : ((List.range 9).all fun k => nextHas (runOn ((List.replicate 9 q).take k)
        { State.resetOf tiny with fv := fresh, seq := firing 0#4 }) fun w => decide (w.seq.st = .firing)) = true := by decide
  have h2 : nextHas (runOn (List.replicate 9 q) { State.resetOf tiny with fv := fresh, seq := firing 0#4 })
      (fun t => decide (t.seq.st = .armed)) = true := by decide
  obtain ⟨t, ht, h3⟩ := next_of_nextHas h2
  refine ⟨t, by decide, ?_, ht, by simpa using h3⟩
  intro k w hk hw
  rw [List.all_eq_true] at h
  have := h k (List.mem_range.2 (by simpa using hk))
  rw [hw] at this
  simpa [nextHas] using this
theorem witness_MelodyNoteTakesItsCycles :
    ∀ s : State, s = { loud with seq := firing 0#4 } →
      s.cfg.Valid ∧ s.seq.st = .firing ∧ s.mv.act = false ∧ s.seq.melIdx = BitVec.ofNat 4 0 ∧ s.adc.vlevel ≠ .mute ∧
      1 ≤ repsNat s.cfg 0 s.cfg.melOct s.cfg.melDurMs ∧ (∀ i ∈ [q, hi], i.live) ∧ 1 ≤ [q, hi].length ∧
      [q, hi].length ≤ melodyNoteCycles s.cfg s.adc.vlevel 0 ∧ melodyNoteCycles s.cfg s.adc.vlevel 0 = 7956002 := by
  rintro s rfl
  decide
theorem witness_MelodyLength :
    ∀ s : State, s = { State.resetOf tiny with seq := firing 0#4 } →
      s.cfg.Valid ∧ s.seq.st = .firing ∧ s.mv.act = false ∧ s.seq.melIdx = 0#4 ∧ s.adc.pend = false ∧
      (∀ i ∈ List.replicate 9 q, i.live ∧ i.adcDone = false) ∧
      (List.replicate 9 q).length = melodyCycles s.cfg s.adc.vlevel + 1 := by
  rintro s rfl
  decide

end Sys2Proof.Tests
end

/-! PROOFS. The parameters and the two voices over one cycle: PLAY words in numbers, what a bus access leaves of FV and
PLAYST, what the units leave of MV, and the statements on them. -/

section
namespace Sys2Proof

/-! ### The fields of a CMD word as numbers (R57 to R59) -/

@[simp] theorem opField_toNat (v : Word) : (opField v).toNat = v.toNat % 16 := by
  simp [opField]
@[simp] theorem noteField_toNat (v : Word) : (noteField v).toNat = v.toNat / 16 % 16 := by
  simp [noteField, Nat.shiftRight_eq_div_pow]
@[simp] theorem octField_toNat (v : Word) : (octField v).toNat = v.toNat / 256 % 4 := by
  simp [octField, Nat.shiftRight_eq_div_pow]
@[simp] theorem playReservedField_toNat (v : Word) : (playReservedField v).toNat = v.toNat / 1024 % 64 := by
  simp [playReservedField, Nat.shiftRight_eq_div_pow]
@[simp] theorem durField_toNat (v : Word) : (durField v).toNat = v.toNat / 65536 := by
  have := v.isLt
  simp [durField, Nat.shiftRight_eq_div_pow]
  omega

/-- PLAY's own decoder (R58, R59): the reserved field is 0, the codes are legal, and the operands are the fields. -/
theorem decodePlay_eq_ok_iff (v : Word) (i : Instr) :
    decodePlay v = .ok i ↔
      playReservedField v = 0#6 ∧ noteCodeOk (noteField v) = true ∧ octaveCodeOk (octField v) = true ∧
        .play (noteField v) (octField v) (durField v) = i := by
  unfold decodePlay
  split
  · simp_all
  · split
    · simp_all
    · split <;> simp_all

/-- Only the OP of PLAY decodes to a PLAY (R57). -/
theorem decode_eq_play_iff (v : Word) (note : BitVec 4) (oct : BitVec 2) (durMs : BitVec 16) :
    decode v = .ok (.play note oct durMs) ↔ opField v = 2#4 ∧ decodePlay v = .ok (.play note oct durMs) := by
  unfold decode decodeBare decodeReserved
  by_cases h2 : opField v = 2#4
  · simp [h2]
  · simp only [h2, false_and, iff_false, if_false]
    repeat' split
    all_goals simp

/-- The legality `execPlay` asks of PLAY's operands is the decoder's (R58). -/
theorem Machine.playLegal_iff (note : BitVec 4) (oct : BitVec 2) :
    Machine.playLegal note oct = true ↔ noteCodeOk note = true ∧ octaveCodeOk oct = true := by
  rw [← Bool.and_eq_true]; rfl

/-- R57 to R59 in numbers: the words that decode to a PLAY are those of its field layout with legal codes. -/
theorem decode_eq_play_iff_toNat (v : Word) (note : BitVec 4) (oct : BitVec 2) (durMs : BitVec 16) :
    decode v = .ok (.play note oct durMs) ↔
      Machine.playLegal note oct = true ∧
        v.toNat = 2 + 16 * note.toNat + 256 * oct.toNat + 65536 * durMs.toNat := by
  have hv := v.isLt
  have hn := note.isLt
  have ho := oct.isLt
  have hd := durMs.isLt
  rw [decode_eq_play_iff, decodePlay_eq_ok_iff]
  constructor
  · rintro ⟨hop, hres, hnote, hoct, heq⟩
    obtain ⟨rfl, rfl, rfl⟩ := Instr.play.inj heq
    have hop' := congrArg BitVec.toNat hop
    have hres' := congrArg BitVec.toNat hres
    simp only [opField_toNat, playReservedField_toNat, BitVec.toNat_ofNat] at hop' hres'
    refine ⟨(Machine.playLegal_iff ..).2 ⟨hnote, hoct⟩, ?_⟩
    simp only [noteField_toNat, octField_toNat, durField_toNat]
    omega
  · rintro ⟨hlegal, hval⟩
    have hnote : noteField v = note := BitVec.eq_of_toNat_eq (by rw [noteField_toNat]; omega)
    have hoct : octField v = oct := BitVec.eq_of_toNat_eq (by rw [octField_toNat]; omega)
    have hdur : durField v = durMs := BitVec.eq_of_toNat_eq (by rw [durField_toNat]; omega)
    have hop : opField v = 2#4 := BitVec.eq_of_toNat_eq (by rw [opField_toNat, BitVec.toNat_ofNat]; omega)
    have hres : playReservedField v = 0#6 :=
      BitVec.eq_of_toNat_eq (by rw [playReservedField_toNat, BitVec.toNat_ofNat]; omega)
    rw [hnote, hoct, hdur]
    obtain ⟨hnoteOk, hoctOk⟩ := (Machine.playLegal_iff ..).1 hlegal
    exact ⟨hop, hres, hnoteOk, hoctOk, rfl⟩

end Sys2Proof

namespace Sys2Proof.Machine

/-! ### The parameters -/

/-- A step answers the parameters it is given (R7): a reset, a bus access and the units all keep them. -/
theorem step_keeps_cfg {s t : State} (h : step s = .next t) : t.cfg = s.cfg := by
  obtain ⟨-, ⟨-, rfl⟩ | ⟨b, -, hb, rfl⟩⟩ := step_next_cases h
  · simp
  · obtain ⟨hcfg, -⟩ := busAccess_frame hb
    simpa using hcfg

/-- Settles O22: the parameters are kept by each of the two forms of a step. -/
theorem stepKeepsParameters : Obligations.StepKeepsParameters := by
  unfold Obligations.StepKeepsParameters
  exact fun s t h => step_keeps_cfg h

/-- The melody's octave is one that sounds (R8). -/
theorem melOct_ne_inactive {p : Params} (hv : p.Valid) : p.melOct ≠ inactive := by
  obtain ⟨-, -, -, -, hoct, -⟩ := hv
  obtain h | h := hoct <;> rw [h] <;> decide

/-! ### A voice's step and its load -/

/-- The step of R88 is the one in the words of the rule. -/
theorem Voice.stepsTo_step (v : Voice) : v.StepsTo v.step := by
  have hidx : v.idx.toNat = tableSize - 1 ↔ v.idx = 99#7 := BitVec.toNat_inj (y := 99#7)
  refine ⟨fun hw hr => ?_, fun hw hr hi => ?_, fun hw hr hi => ?_, fun hw => ?_⟩
  · rw [Voice.step, if_pos hw, if_pos hr]
  · rw [Voice.step, if_pos hw, if_neg hr, if_pos (hidx.2 hi)]
  · rw [Voice.step, if_pos hw, if_neg hr, if_neg (mt hidx.1 hi)]
  · rw [Voice.step, if_neg hw]

/-- The repeat count of R85 as a number. -/
theorem repeatCount_eq (p : Params) (n : Fin 8) (oct : OctCode) (durMs : BitVec 16) :
    repeatCount p n oct durMs = BitVec.ofNat 32 (repsNat p n oct durMs) := rfl

theorem repsNat_lt (p : Params) (n : Fin 8) (oct : OctCode) (durMs : BitVec 16) :
    repsNat p n oct durMs < 2 ^ 32 := by
  unfold repsNat; omega

/-- A note has repeats exactly when its count is not 0: nothing is lost in 32 bits. -/
theorem repeatCount_ne_zero_iff (p : Params) (n : Fin 8) (oct : OctCode) (durMs : BitVec 16) :
    repeatCount p n oct durMs ≠ 0#32 ↔ 1 ≤ repsNat p n oct durMs := by
  rw [repeatCount_eq, ne_eq, ← BitVec.toNat_inj, BitVec.toNat_ofNat, Nat.mod_eq_of_lt (repsNat_lt ..),
    BitVec.toNat_ofNat]
  omega

/-- VoiceLoad with the repeats of R85 leaves the voice of R87. -/
theorem voiceLoad_eq_loadedVoice (p : Params) (n : Fin 8) (oct : OctCode) (div : VolLevel) (durMs : BitVec 16) :
    voiceLoad p n oct div (repeatCount p n oct durMs) = loadedVoice p n oct div durMs := rfl

/-- The code of a scale note is its number (R13). -/
theorem scaleCode_toNat (n : Fin 8) : (BitVec.ofNat 4 n.val).toNat = n.val := by
  rw [BitVec.toNat_ofNat]; omega

/-- A legal octave that is not INACTIVE is 1 or 2 (R13, R58). -/
theorem octave_of_playLegal {note : NoteCode} {oct : OctCode} (hlegal : playLegal note oct = true)
    (hact : oct ≠ inactive) : oct = 1#2 ∨ oct = 2#2 := by
  simp only [playLegal, Bool.and_eq_true, decide_eq_true_eq] at hlegal
  obtain ⟨-, h3⟩ := hlegal
  simp only [← BitVec.toNat_inj, ne_eq, BitVec.toNat_ofNat] at hact ⊢
  omega

/-- A scale note that is not silent and has a repeat loads the voice of R87 (R83). -/
theorem noteVoice_of_sounds {p : Params} {n : Fin 8} {oct : OctCode} {div : VolLevel} {durMs : BitVec 16}
    (hoct : oct ≠ inactive) (hdiv : div ≠ .mute) (hreps : 1 ≤ repsNat p n oct durMs) :
    noteVoice p (BitVec.ofNat 4 n.val) oct div durMs = some (loadedVoice p n oct div durMs) := by
  have hn := scaleCode_toNat n
  have hsil : BitVec.ofNat 4 n.val ≠ silence := fun h => by
    rw [h] at hn; simp at hn; omega
  have hr := (repeatCount_ne_zero_iff p n oct durMs).2 hreps
  simp [noteVoice, silent, scaleNote, hsil, hoct, hdiv, hn, hr, voiceLoad_eq_loadedVoice]

/-- A voice that playing a note loads is that of R87, for a note that sounds. -/
theorem sounds_of_noteVoice {p : Params} {note : NoteCode} {oct : OctCode} {div : VolLevel} {durMs : BitVec 16}
    {v : Voice} (h : noteVoice p note oct div durMs = some v) :
    ∃ n : Fin 8, note = BitVec.ofNat 4 n.val ∧ oct ≠ inactive ∧ div ≠ .mute ∧ 1 ≤ repsNat p n oct durMs ∧
      v = loadedVoice p n oct div durMs := by
  obtain hnone | ⟨n, hn, hoct, hdiv, hreps, hsome⟩ := noteVoice_cases p note oct div durMs
  · rw [hnone] at h; cases h
  · rw [hsome] at h
    cases h
    exact ⟨n, by rw [← hn, BitVec.ofNat_toNat, BitVec.setWidth_eq], hoct, hdiv,
      (repeatCount_ne_zero_iff p n oct durMs).1 hreps, rfl⟩

/-- The voice of a melody note (R103): loaded if the note sounds, else kept. -/
theorem noteVoice_getD (p : Params) (n : Fin 8) {oct : OctCode} (div : VolLevel) (durMs : BitVec 16) (v : Voice)
    (hoct : oct ≠ inactive) :
    (noteVoice p (BitVec.ofNat 4 n.val) oct div durMs).getD v =
      if div ≠ .mute ∧ 1 ≤ repsNat p n oct durMs then loadedVoice p n oct div durMs else v := by
  split
  case isTrue h => rw [noteVoice_of_sounds hoct h.1 h.2]; rfl
  case isFalse h =>
    cases hv : noteVoice p (BitVec.ofNat 4 n.val) oct div durMs with
    | none => rfl
    | some w =>
      obtain ⟨m, hm, -, hdiv, hreps, -⟩ := sounds_of_noteVoice hv
      have hmn : n = m := Fin.ext (by rw [← scaleCode_toNat n, hm, scaleCode_toNat])
      subst hmn
      exact absurd ⟨hdiv, hreps⟩ h

/-! ### What a cycle's bus access leaves of FV and PLAYST -/

/-- A write to CMD is the cycle's whole access (R39). -/
theorem busAccess_of_cmdWord {i : CycleInput} {v : Word} (h : cmdWord i = some v) (s : State) :
    busAccess i s = cmdWrite s v := by
  unfold cmdWord at h
  split at h
  case isTrue hc =>
    cases h
    simp only [Bool.and_eq_true, decide_eq_true_eq] at hc
    obtain ⟨⟨hen, hwe⟩, hslot⟩ := hc
    simp [busAccess, memWrite, hen, hwe, hslot]
  case isFalse => cases h

/-- A word that decodes is executed (R39). -/
theorem cmdWrite_of_decode {v : Word} {j : Instr} (h : decode v = .ok j) (s : State) : cmdWrite s v = exec j s := by
  rw [cmdWrite, h]

/-- An accepted PLAY (R82, R83): PlaybackState is recorded, and FV is loaded unless the note is a no-op. -/
theorem exec_play_accepted {note : NoteCode} {oct : OctCode} {s : State} (durMs : BitVec 16)
    (hlegal : playLegal note oct = true) (harmed : s.seq.st = .armed) (hidle : s.fv.act = false) :
    ∃ b, exec (.play note oct durMs) s = .next b ∧ b.play = ⟨note, oct⟩ ∧
      b.fv = (noteVoice s.cfg note oct s.adc.vlevel durMs).getD s.fv := by
  cases hv : noteVoice s.cfg note oct s.adc.vlevel durMs with
  | none =>
    exact ⟨(s.recordPlayback note oct).raise .synDone, by simp [exec, execPlay, hlegal, harmed, hidle, hv], rfl, rfl⟩
  | some v =>
    exact ⟨{ s.recordPlayback note oct with fv := v }, by simp [exec, execPlay, hlegal, harmed, hidle, hv], rfl, rfl⟩

/-- FV and PLAYST after a cycle's bus access: kept, or those of an accepted PLAY (R81 to R83). -/
theorem busAccess_fv_play_cases {i : CycleInput} {s b : State} (hb : busAccess i s = .next b) :
    (b.fv = s.fv ∧ b.play = s.play) ∨
    ∃ v note oct durMs, cmdWord i = some v ∧ decode v = .ok (.play note oct durMs) ∧
      s.seq.st = .armed ∧ s.fv.act = false ∧ b.play = ⟨note, oct⟩ ∧
      b.fv = (noteVoice s.cfg note oct s.adc.vlevel durMs).getD s.fv := by
  obtain h | ⟨v, j, hcmd, hdec, h⟩ | ⟨v, e, -, -, h⟩ | ⟨-, v, h | h | h⟩ := busAccess_cases i s
  case inr.inl =>
    rw [h] at hb
    obtain h | ⟨c, -, h⟩ | ⟨-, -, h⟩ | ⟨note, oct, durMs, rfl, hlegal, harmed, hidle, -⟩ | ⟨-, -, h⟩ := exec_cases j s
    case inr.inr.inr.inl =>
      obtain ⟨b', hb', hplay, hfv⟩ := exec_play_accepted durMs hlegal harmed hidle
      rw [hb'] at hb
      cases hb
      exact .inr ⟨v, note, oct, durMs, hcmd, hdec, harmed, hidle, hplay, hfv⟩
    all_goals
      rw [h] at hb
      cases hb
      exact .inl ⟨rfl, rfl⟩
  all_goals
    rw [h] at hb
    cases hb
    exact .inl ⟨rfl, rfl⟩

/-- While FIRING no bus access changes PLAYST (R81, R119). -/
theorem busAccess_play_of_firing {i : CycleInput} {s b : State} (hb : busAccess i s = .next b)
    (hf : s.seq.st = .firing) : b.play = s.play := by
  obtain ⟨-, h⟩ | ⟨v, note, oct, durMs, -, -, harmed, -⟩ := busAccess_fv_play_cases hb
  · exact h
  · rw [hf] at harmed; cases harmed

/-- No REARM is accepted while FIRING (R100). -/
theorem rearmAccepted_of_firing {s : State} (i : CycleInput) (hf : s.seq.st = .firing) :
    rearmAccepted i s = false := by
  unfold rearmAccepted
  rw [hf]
  repeat' split
  all_goals rfl

/-- While FIRING no bus access changes the IdleSequencer (R100, R119). -/
theorem busAccess_seq_of_firing {i : CycleInput} {s b : State} (hb : busAccess i s = .next b)
    (hf : s.seq.st = .firing) : b.seq = s.seq := by
  rw [busAccess_seq hb, rearmAccepted_of_firing i hf]
  rfl

/-- A PLAY that sounds, while ARMED with FV idle, loads FV with the voice of R87. -/
theorem busAccess_fv_of_playSounds {i : CycleInput} {s b : State} {n : Fin 8} {oct : OctCode} {durMs : BitVec 16}
    (hb : busAccess i s = .next b) (harmed : s.seq.st = .armed) (hidle : s.fv.act = false)
    (h : PlaySounds i s n oct durMs) : b.fv = loadedVoice s.cfg n oct s.adc.vlevel durMs := by
  obtain ⟨⟨v, hcmd, hval⟩, hoct, hdiv, hreps⟩ := h
  have hlegal : playLegal (BitVec.ofNat 4 n.val) oct = true := by
    rw [playLegal, scaleCode_toNat]
    obtain rfl | rfl := hoct <;> simp
  have hact : oct ≠ inactive := by obtain rfl | rfl := hoct <;> decide
  have hdec : decode v = .ok (.play (BitVec.ofNat 4 n.val) oct durMs) :=
    (decode_eq_play_iff_toNat ..).2 ⟨hlegal, by rw [scaleCode_toNat]; exact hval⟩
  obtain ⟨b', hb', -, hfv⟩ := exec_play_accepted durMs hlegal harmed hidle
  rw [busAccess_of_cmdWord hcmd, cmdWrite_of_decode hdec, hb'] at hb
  cases hb
  rw [hfv, noteVoice_of_sounds hact hdiv hreps]
  rfl

/-- Without a PLAY that sounds FV is kept by the bus access. -/
theorem busAccess_fv_of_not_playSounds {i : CycleInput} {s b : State} (hb : busAccess i s = .next b)
    (h : ∀ n oct durMs, ¬ PlaySounds i s n oct durMs) : b.fv = s.fv := by
  obtain ⟨hfv, -⟩ | ⟨v, note, oct, durMs, hcmd, hdec, -, -, -, hfv⟩ := busAccess_fv_play_cases hb
  · exact hfv
  · rw [hfv]
    cases hv : noteVoice s.cfg note oct s.adc.vlevel durMs with
    | none => rfl
    | some w =>
      obtain ⟨n, rfl, hact, hdiv, hreps, -⟩ := sounds_of_noteVoice hv
      obtain ⟨hlegal, hval⟩ := (decode_eq_play_iff_toNat ..).1 hdec
      rw [scaleCode_toNat] at hval
      exact absurd ⟨⟨v, hcmd, hval⟩, octave_of_playLegal hlegal hact, hdiv, hreps⟩ (h n oct durMs)

/-! ### What the units leave of MV, the sequencer and PLAYST -/

/-- MV after the sequencer's part of a cycle: it loads MV before a note 0 to 7 with MV idle, and else keeps it (R103). -/
theorem sequencerCycle_mv (r : Bool) (s t : State) :
    (sequencerCycle r s t).mv =
      if s.seq.st = .firing ∧ s.mv.act = false ∧ s.seq.melIdx.toNat < 8 then s.melodyVoice.getD t.mv else t.mv := by
  obtain ⟨hst, -, h⟩ | ⟨hexp, h⟩ | ⟨hst, -, -, h⟩ | ⟨-, hact, h⟩ | ⟨hst, hact, hidx, h⟩ | ⟨-, -, hidx, h⟩ |
    ⟨-, -, hidx, h⟩ := sequencerCycle_cases r s t
  · simp [h, hst]
  · simp only [State.idleExpires, Bool.and_eq_true, decide_eq_true_eq] at hexp
    simp [h, hexp]
  · simp [h, hst]
  · simp [h, hact]
  · simp [h, hst, hact, hidx, nextNote_eq]
  · simp [h, hidx]
  · rw [h, if_neg fun hload => absurd hload.2.2 (by omega)]

/-- MV after all units (R89, R103): active it steps; idle it is loaded by a melody note or kept. -/
theorem unitsCycle_mv (i : CycleInput) (s t : State) :
    (unitsCycle i s t).mv =
      if s.mv.act = true then s.mv.step
      else if s.seq.st = .firing ∧ s.seq.melIdx.toNat < 8 then s.melodyVoice.getD t.mv else t.mv := by
  obtain ⟨u, -, -, -, hu, -, -, hmv⟩ := unitsCycle_sequencer i s t
  rw [hmv, sequencerCycle_mv, hu, State.mvSteps]
  cases s.mv.act <;> simp

/-- While FIRING with MV active the units keep the sequencer and PLAYST (R103). -/
theorem unitsCycle_seq_play_of_melody {s : State} (i : CycleInput) (t : State) (hf : s.seq.st = .firing)
    (hact : s.mv.act = true) : (unitsCycle i s t).seq = t.seq ∧ (unitsCycle i s t).play = t.play := by
  obtain ⟨u, -, hseq, hplay, -, hseq', hplay', -⟩ := unitsCycle_sequencer i s t
  have hkeep : sequencerCycle (rearmAccepted i s) s u = u := by simp [sequencerCycle, hf, hact]
  rw [hseq', hplay', hkeep]
  exact ⟨hseq, hplay⟩

/-! ### Both voices after a cycle -/

/-- FV after a live cycle while FIRING: the bus access and the units keep it (R89, R119). -/
theorem unitsCycle_fv_of_firing {s b : State} {i : CycleInput} (hb : busAccess i s = .next b) (hf : s.seq.st = .firing) :
    (unitsCycle i s b).fv = s.fv := by
  simp [State.fvSteps, hf, busAccess_fv hb (.inr hf)]

/-- FV idle takes no step, so a voice the bus access loads stands (R87, R112). -/
theorem unitsCycle_fv_of_idle {s : State} (i : CycleInput) (b : State) (hidle : s.fv.act = false) :
    (unitsCycle i s b).fv = b.fv := by
  simp [State.fvSteps, hidle]

/-- Settles O48: FV and MV after a live cycle, from what the bus access and the units leave of them. -/
theorem foregroundFrozenWhileFiring : Obligations.ForegroundFrozenWhileFiring := by
  unfold Obligations.ForegroundFrozenWhileFiring
  intro s hv hr
  obtain ⟨b, hb⟩ := busAccess_total s.input s
  obtain ⟨-, -, -, -, hbmv, -⟩ := busAccess_frame hb
  refine ⟨_, step_live hv hr hb, fun hf => ?_, fun harmed hact => ?_,
    fun harmed hidle => ⟨fun n oct durMs hp => ?_, fun hp => ?_⟩,
    fun hact => ⟨?_, fun hf => ?_⟩, fun hidle => ⟨fun n hf hn => ?_, fun hkeep => ?_⟩⟩
  · exact unitsCycle_fv_of_firing hb hf
  · simpa [State.fvSteps, harmed, hact] using s.fv.stepsTo_step
  · rw [State.endCycle_fv, unitsCycle_fv_of_idle _ _ hidle, busAccess_fv_of_playSounds hb harmed hidle hp]
  · rw [State.endCycle_fv, unitsCycle_fv_of_idle _ _ hidle, busAccess_fv_of_not_playSounds hb hp]
  · rw [State.endCycle_mv, unitsCycle_mv, if_pos hact]
    exact s.mv.stepsTo_step
  · obtain ⟨hseq, hplay⟩ := unitsCycle_seq_play_of_melody s.input b hf hact
    exact ⟨hseq.trans (busAccess_seq_of_firing hb hf), hplay.trans (busAccess_play_of_firing hb hf)⟩
  · have hidx : s.seq.melIdx.toNat < 8 := by rw [hn, scaleCode_toNat]; exact n.isLt
    rw [State.endCycle_mv, unitsCycle_mv, if_neg (by simp [hidle]), if_pos ⟨hf, hidx⟩, hbmv, State.melodyVoice, hn,
      noteVoice_getD _ _ _ _ _ (melOct_ne_inactive hv)]
  · have hno : ¬ (s.seq.st = .firing ∧ s.seq.melIdx.toNat < 8) := by
      rintro ⟨hf, hidx⟩
      obtain harmed | h8 := hkeep
      · rw [hf] at harmed; cases harmed
      · omega
    rw [State.endCycle_mv, unitsCycle_mv, if_neg (by simp [hidle]), if_neg hno, hbmv]

end Sys2Proof.Machine
end

/-! PROOFS. The state and its invariant: what each unit keeps of State.Inv over one cycle, who writes PLAYST, what an ADC
event does, and the statements on them. -/

section
namespace Sys2Proof.Machine

/-! ### The Ranger's invariant (R63 to R72) -/

theorem settleCyc_le_pulseCyc (p : Params) : p.settleCyc ≤ p.pulseCyc := by
  unfold Params.settleCyc Params.pulseCyc ceilDiv; omega

theorem settleCyc_pos {p : Params} (hv : p.Valid) : 1 ≤ p.settleCyc := by
  obtain ⟨hclk, -⟩ := hv
  unfold Params.settleCyc ceilDiv; omega

/-- Both trigger phases last at least one cycle, and the 16 bits of RTIM hold their lengths (R9). -/
theorem triggerLengths {p : Params} (hv : p.Valid) :
    1 ≤ p.settleCyc ∧ (BitVec.ofNat 16 p.settleCyc).toNat = p.settleCyc ∧
    1 ≤ p.pulseCyc ∧ (BitVec.ofNat 16 p.pulseCyc).toNat = p.pulseCyc := by
  have hle := settleCyc_le_pulseCyc p
  have hpos := settleCyc_pos hv
  obtain ⟨-, hwidth, -⟩ := hv
  rw [BitVec.toNat_ofNat, BitVec.toNat_ofNat, Nat.mod_eq_of_lt (hle.trans_lt hwidth), Nat.mod_eq_of_lt hwidth]
  exact ⟨hpos, rfl, hpos.trans hle, rfl⟩

/-- What the Ranger's invariant asks in the phase the Ranger is in. -/
def Ranger.PhaseInv (p : Params) (r : Ranger) : Prop :=
  match r.st with
  | .idle => r.rtim = 0#16 ∧ r.tmoEn = false
  | .trigLow => (1 ≤ r.rtim.toNat ∧ r.rtim.toNat ≤ p.settleCyc) ∧ r.rcnt = 0#32 ∧ r.tmoEn = false
  | .trigHigh => (1 ≤ r.rtim.toNat ∧ r.rtim.toNat ≤ p.pulseCyc) ∧ r.rcnt = 0#32 ∧ r.tmoEn = false
  | .waitStale | .waitRise => r.rtim = 0#16 ∧ r.rcnt = 0#32 ∧ (r.tmoEn = true → 1 ≤ r.tmoLeft.toNat)
  | .count | .convert => r.rtim = 0#16 ∧ 1 ≤ r.rcnt.toNat ∧ (r.tmoEn = true → 1 ≤ r.tmoLeft.toNat)

theorem Ranger.inv_iff_phaseInv (p : Params) (r : Ranger) : r.Inv p ↔ r.PhaseInv p := by
  unfold Ranger.Inv Ranger.PhaseInv
  cases hst : r.st <;> simp

/-- An accepted MEASURE starts the first trigger phase in range (R63). -/
theorem Ranger.start_inv {p : Params} (hv : p.Valid) (r : Ranger) : (r.start p).Inv p := by
  obtain ⟨hpos, hset, -⟩ := triggerLengths hv
  rw [inv_iff_phaseInv]
  simp [PhaseInv, Ranger.start, hset, hpos]

theorem Ranger.timing_iff (echo : Bool) (r : Ranger) :
    r.timing echo = true ↔
      r.tmoEn = true ∧ (r.st = .waitStale ∨ r.st = .waitRise ∨ (r.st = .count ∧ echo = true)) := by
  unfold Ranger.timing
  cases r.st <;> simp

/-- A timeout leaves the Ranger idle, with RTIM at 0 as in every phase it can end (R72). -/
theorem Ranger.afterTimeout_inv {p : Params} {r : Ranger} {echo : Bool} (h : r.Inv p)
    (ht : r.timing echo = true) : r.afterTimeout.Inv p := by
  obtain ⟨-, -, hrtim, -⟩ := h
  obtain ⟨-, hst⟩ := (r.timing_iff echo).1 ht
  have h0 : r.rtim = 0#16 := by
    obtain hst | hst | ⟨hst, -⟩ := hst <;> exact hrtim (by simp [hst]) (by simp [hst])
  exact (inv_iff_phaseInv _ _).2 ⟨h0, rfl⟩

/-- The timeout counts down without reaching 0 (R72). -/
theorem Ranger.countDown_inv {p : Params} {r : Ranger} (h : r.Inv p) (hleft : r.tmoLeft ≠ 1#32) :
    r.countDown.Inv p := by
  obtain ⟨hlow, hhigh, hrtim, hcnt0, hcnt1, htmo⟩ := h
  refine ⟨hlow, hhigh, hrtim, hcnt0, hcnt1, fun hen => ?_⟩
  obtain ⟨hpos, hst⟩ := htmo hen
  refine ⟨?_, hst⟩
  simp only [countDown]
  bv_omega

/-- The state rule of every phase leaves the Ranger in range (R64 to R71). -/
theorem Ranger.stateRule_inv {p : Params} {r : Ranger} (hv : p.Valid) (h : r.Inv p) (tmo : BitVec 32) (echo : Bool) :
    (r.stateRule p tmo echo).Inv p := by
  rw [inv_iff_phaseInv] at h ⊢
  unfold PhaseInv at h
  unfold stateRule
  cases hst : r.st <;> simp only [hst] at h ⊢
  case idle => simpa [PhaseInv, hst] using h
  case trigLow =>
    obtain ⟨⟨hpos, hle⟩, hcnt, hen⟩ := h
    obtain ⟨-, -, hpulse, hpulse'⟩ := triggerLengths hv
    split
    · simp [PhaseInv, hpulse, hpulse', hcnt, hen]
    · have hrtim : 1 ≤ (r.rtim - 1#16).toNat ∧ (r.rtim - 1#16).toNat ≤ p.settleCyc := by bv_omega
      exact ⟨hrtim, hcnt, hen⟩
  case trigHigh =>
    obtain ⟨⟨hpos, hle⟩, hcnt, hen⟩ := h
    split
    · have htmo : tmo ≠ 0#32 → 1 ≤ tmo.toNat := by bv_omega
      simpa [PhaseInv, hcnt] using htmo
    · have hrtim : 1 ≤ (r.rtim - 1#16).toNat ∧ (r.rtim - 1#16).toNat ≤ p.pulseCyc := by bv_omega
      simpa [PhaseInv, hcnt, hen, hst] using hrtim
  case waitStale => split <;> simpa [PhaseInv, hst] using h
  case waitRise =>
    obtain ⟨hrtim, hcnt, htmo⟩ := h
    split
    · exact ⟨hrtim, by simp, htmo⟩
    · simpa [PhaseInv, hst] using ⟨hrtim, hcnt, htmo⟩
  case count =>
    obtain ⟨hrtim, hcnt, htmo⟩ := h
    split
    · exact ⟨hrtim, by simp [sat32_toNat], htmo⟩
    · exact ⟨hrtim, hcnt, htmo⟩
  case convert => exact ⟨h.1, rfl⟩

/-- The Ranger's own update of a cycle keeps it in range. -/
theorem Ranger.tick_inv {p : Params} {r : Ranger} (hv : p.Valid) (h : r.Inv p) (tmo : BitVec 32) (echo : Bool) :
    (r.tick p tmo echo).Inv p := by
  obtain ⟨hout, heq⟩ | ⟨hout, htiming, heq⟩ | ⟨-, -, heq⟩ := tick_cases p tmo echo r
  · simp only [timesOut, Bool.and_eq_true] at hout
    rw [heq]
    exact afterTimeout_inv h hout.1
  · have hleft : r.tmoLeft ≠ 1#32 := by simpa [timesOut, htiming] using hout
    rw [heq]
    exact stateRule_inv hv (countDown_inv h hleft) tmo echo
  · rw [heq]
    exact stateRule_inv hv h tmo echo


/-- The Ranger after a cycle's bus access: kept, or started by an accepted MEASURE (R63). -/
theorem busAccess_rng_cases {i : CycleInput} {s b : State} (hb : busAccess i s = .next b) :
    b.rng = s.rng ∨ b.rng = s.rng.start s.cfg := by
  obtain h | ⟨v, j, -, -, h⟩ | ⟨v, e, -, -, h⟩ | ⟨-, v, h | h | h⟩ := busAccess_cases i s
  case inr.inl =>
    rw [h] at hb
    obtain h | ⟨c, -, h⟩ | ⟨-, -, h⟩ | ⟨_, _, _, -, -, -, -, ⟨-, h⟩ | ⟨_, -, h⟩⟩ | ⟨-, -, h⟩ := exec_cases j s
    all_goals
      rw [h] at hb
      cases hb
      simp
  all_goals
    rw [h] at hb
    cases hb
    exact .inl rfl

/-- The Ranger after the bus access and the units of a cycle. -/
theorem unitsCycle_rng_inv {i : CycleInput} {s b : State} (hv : s.cfg.Valid) (hs : s.rng.Inv s.cfg)
    (hb : busAccess i s = .next b) : (unitsCycle i s b).rng.Inv s.cfg := by
  rw [unitsCycle_rng]
  split
  · obtain h | h := busAccess_rng_cases hb <;> rw [h]
    · exact hs
    · exact s.rng.start_inv hv
  · exact Ranger.tick_inv hv hs ..

/-! ### The voices' invariant (R87, R88) -/

/-- A step of an active voice keeps it in range (R88): WAIT restarts at PER - 1. -/
theorem Voice.step_inv {v : Voice} (h : v.Inv) (hact : v.act = true) : v.step.Inv := by
  obtain ⟨hnote, hoct, hidx, hplay⟩ := h
  obtain ⟨hscale, hsounds, hdiv, hwait⟩ := hplay hact
  have hrestart : (v.per - 1#16).toNat < v.per.toNat := by bv_omega
  unfold tableSize at hidx
  obtain ⟨-, heq⟩ | ⟨-, -, heq⟩ | ⟨-, hlast, heq⟩ | ⟨hw, -, -, heq⟩ := v.step_cases <;> rw [heq]
  · exact ⟨hnote, hoct, hidx, by simp⟩
  · exact ⟨hnote, hoct, Nat.zero_lt_succ 99, fun _ => ⟨hscale, hsounds, hdiv, hrestart⟩⟩
  · unfold tableSize at hlast
    have hnext : (v.idx + 1#7).toNat < tableSize := by unfold tableSize; bv_omega
    exact ⟨hnote, hoct, hnext, fun _ => ⟨hscale, hsounds, hdiv, hrestart⟩⟩
  · have hcount : (v.wait - 1#16).toNat < v.per.toNat := by bv_omega
    exact ⟨hnote, hoct, hidx, fun _ => ⟨hscale, hsounds, hdiv, hcount⟩⟩

theorem Voice.step_note (v : Voice) : v.step.note = v.note := by
  obtain ⟨-, heq⟩ | ⟨-, -, heq⟩ | ⟨-, -, heq⟩ | ⟨-, -, -, heq⟩ := v.step_cases <;> rw [heq]

/-- The voice a sounding note loads is in range (R84, R87). -/
theorem loadedVoice_inv (p : Params) (n : Fin 8) {oct : OctCode} {div : VolLevel} (durMs : BitVec 16)
    (hlegal : oct.toNat ≠ 3) (hoct : oct ≠ inactive) (hdiv : div ≠ .mute) : (loadedVoice p n oct div durMs).Inv := by
  have hnote : (BitVec.ofNat 4 n.val).toNat < 8 := (scaleCode_toNat n).trans_lt n.isLt
  exact ⟨hnote.le, hlegal, Nat.zero_lt_succ 99, fun _ => ⟨hnote, hoct, hdiv, slotLength_pos p n oct⟩⟩

/-- The voice left by playing a note, loaded or kept, is in range (R83). -/
theorem noteVoice_getD_inv {p : Params} {note : NoteCode} {oct : OctCode} {div : VolLevel} {durMs : BitVec 16}
    {v : Voice} (h : v.Inv) (hlegal : oct.toNat ≠ 3) : ((noteVoice p note oct div durMs).getD v).Inv := by
  cases hw : noteVoice p note oct div durMs with
  | none => exact h
  | some w =>
    obtain ⟨n, -, hoct, hdiv, -, rfl⟩ := sounds_of_noteVoice hw
    exact loadedVoice_inv p n durMs hlegal hoct hdiv

/-- The operands of a PLAY that decodes are legal codes (R58). -/
theorem codes_of_decode_play {v : Word} {note : NoteCode} {oct : OctCode} {durMs : BitVec 16}
    (h : decode v = .ok (.play note oct durMs)) : note.toNat ≤ 8 ∧ oct.toNat ≠ 3 := by
  obtain ⟨hlegal, -⟩ := (decode_eq_play_iff_toNat ..).1 h
  simpa [playLegal] using hlegal

/-- FV after the bus access and the units of a cycle: kept, loaded or stepped. -/
theorem unitsCycle_fv_inv {i : CycleInput} {s b : State} (hs : s.fv.Inv) (hb : busAccess i s = .next b) :
    (unitsCycle i s b).fv.Inv := by
  rw [unitsCycle_fv]
  split
  case isTrue hsteps =>
    simp only [State.fvSteps, Bool.and_eq_true] at hsteps
    exact Voice.step_inv hs hsteps.1
  case isFalse =>
    obtain ⟨hfv, -⟩ | ⟨v, note, oct, durMs, -, hdec, -, -, -, hfv⟩ := busAccess_fv_play_cases hb <;> rw [hfv]
    · exact hs
    · exact noteVoice_getD_inv hs (codes_of_decode_play hdec).2

/-! ### The sequencer, PLAYST and MV (R27, R28, R101 to R104) -/

/-- The part of the invariant that the melody's rules keep together: it ties the IdleSequencer, PLAYST and MV. -/
structure MelodyInv (p : Params) (q : Sequencer) (ps : PlayState) (v : Voice) : Prop where
  seq : q.Inv p
  note : ps.note.toNat ≤ 8
  oct : ps.oct.toNat ≠ 3
  voice : v.Inv
  playing : v.act = true → q.st = .firing ∧ 1 ≤ q.melIdx.toNat ∧ v.note = ps.note
  forced : q.st = .firing → ps.oct = p.melOct
  current : q.st = .firing → 1 ≤ q.melIdx.toNat → ps.note.toNat + 1 = q.melIdx.toNat

/-- The melody's part of the invariant, of a state. -/
abbrev State.MelodyInv (s : State) : Prop := Machine.MelodyInv s.cfg s.seq s.play s.mv

theorem State.MelodyInv.congr {s t : State} (h : s.MelodyInv) (hcfg : t.cfg = s.cfg) (hseq : t.seq = s.seq)
    (hplay : t.play = s.play) (hmv : t.mv = s.mv) : t.MelodyInv := by
  rw [State.MelodyInv, hcfg, hseq, hplay, hmv]
  exact h

/-- While ARMED no melody plays, and the sequencer, PLAYST and MV are in range each for itself. -/
theorem melodyInv_iff_of_armed {p : Params} {q : Sequencer} {ps : PlayState} {v : Voice} (hst : q.st = .armed) :
    MelodyInv p q ps v ↔ q.Inv p ∧ ps.note.toNat ≤ 8 ∧ ps.oct.toNat ≠ 3 ∧ v.Inv ∧ v.act = false := by
  constructor
  · intro h
    have hact : v.act = false := by
      by_contra hplays
      obtain ⟨hfiring, -⟩ := h.playing (by simpa using hplays)
      rw [hst] at hfiring; cases hfiring
    exact ⟨h.seq, h.note, h.oct, h.voice, hact⟩
  · rintro ⟨hseq, hnote, hoct, hvoice, hact⟩
    exact {
      seq := hseq
      note := hnote
      oct := hoct
      voice := hvoice
      playing := by simp [hact]
      forced := by simp [hst]
      current := by simp [hst] }

/-- While ARMED the sequencer is in range if its countdown and its snapshot are (R27). -/
theorem Sequencer.inv_iff_of_armed {p : Params} {q : Sequencer} (hst : q.st = .armed) :
    q.Inv p ↔ q.snapNote.toNat ≤ 8 ∧ q.snapOct.toNat ≠ 3 ∧ 1 ≤ q.idleCnt.toNat ∧
      q.idleCnt.toNat ≤ p.idleTicks.toNat ∧ q.melIdx = 0#4 := by
  simp [Sequencer.Inv, hst]

theorem idleTicks_pos {p : Params} (hv : p.Valid) : 1 ≤ p.idleTicks.toNat := by
  obtain ⟨-, -, -, hticks, -⟩ := hv
  exact hticks

theorem melOct_toNat_ne_three {p : Params} (hv : p.Valid) : p.melOct.toNat ≠ 3 := by
  obtain ⟨-, -, -, -, hoct, -⟩ := hv
  obtain h | h := hoct <;> rw [h] <;> decide

/-- The reload of the idle timer by a REARM (R100). -/
theorem Sequencer.reload_inv {p : Params} {q : Sequencer} (hv : p.Valid) (h : q.Inv p) (hst : q.st = .armed) :
    ({ q with idleCnt := p.idleTicks } : Sequencer).Inv p := by
  obtain ⟨hnote, hoct, -, -, hidx⟩ := (inv_iff_of_armed hst).1 h
  exact (inv_iff_of_armed (q := { q with idleCnt := p.idleTicks }) hst).2
    ⟨hnote, hoct, idleTicks_pos hv, le_rfl, hidx⟩

/-- The countdown before the expiry cycle (R101). -/
theorem State.MelodyInv.countIdle {s : State} (h : s.MelodyInv) (hst : s.seq.st = .armed)
    (hcnt : 1 < s.seq.idleCnt.toNat) : s.countIdle.MelodyInv := by
  obtain ⟨hseq, hrest⟩ := (melodyInv_iff_of_armed hst).1 h
  obtain ⟨hnote, hoct, -, hle, hidx⟩ := (Sequencer.inv_iff_of_armed hst).1 hseq
  have hdown : 1 ≤ (s.seq.idleCnt - 1#32).toNat ∧ (s.seq.idleCnt - 1#32).toNat ≤ s.cfg.idleTicks.toNat := by bv_omega
  have hseq' : s.countIdle.seq.Inv s.cfg :=
    (Sequencer.inv_iff_of_armed (q := s.countIdle.seq) hst).2 ⟨hnote, hoct, hdown.1, hdown.2, hidx⟩
  exact (melodyInv_iff_of_armed (q := s.countIdle.seq) hst).2 ⟨hseq', hrest⟩

/-- Melody entry (R102): PLAYST, whose codes are legal, becomes the snapshot. -/
theorem State.MelodyInv.melodyEntry {s : State} (hv : s.cfg.Valid) (h : s.MelodyInv) (hst : s.seq.st = .armed) :
    s.melodyEntry.MelodyInv := by
  obtain ⟨-, hnote, hoct, hvoice, hact⟩ := (melodyInv_iff_of_armed hst).1 h
  exact {
    seq := ⟨hnote, hoct, by simp, fun _ => by simp⟩
    note := hnote
    oct := melOct_toNat_ne_three hv
    voice := hvoice
    playing := by simp [hact]
    forced := fun _ => rfl
    current := by simp }

/-- A melody note (R103), with MV loaded with it or idle. -/
theorem State.MelodyInv.melodyNote {s : State} {v : Voice} (h : s.MelodyInv) (hst : s.seq.st = .firing)
    (hidx : s.seq.melIdx.toNat < 8) (hv : v.Inv) (hnote : v.act = true → v.note = s.seq.melIdx) :
    ({ s.melodyNote with mv := v } : State).MelodyInv := by
  have hnext : (s.seq.melIdx + 1#4).toNat = s.seq.melIdx.toNat + 1 := by bv_omega
  obtain ⟨hsnapNote, hsnapOct, -, hfiring⟩ := h.seq
  obtain ⟨hcnt, -⟩ := hfiring hst
  exact {
    seq := ⟨hsnapNote, hsnapOct, by simp [hst], fun _ => ⟨hcnt, by simp [hnext]; omega⟩⟩
    note := hidx.le
    oct := h.oct
    voice := hv
    playing := fun hact => ⟨hst, by simp [hnext], hnote hact⟩
    forced := h.forced
    current := fun _ _ => hnext.symm }

/-- Melody exit (R104): the snapshot, whose codes are legal, becomes PLAYST. -/
theorem State.MelodyInv.melodyExit {s : State} (hv : s.cfg.Valid) (h : s.MelodyInv) (hact : s.mv.act = false) :
    s.melodyExit.MelodyInv := by
  obtain ⟨hnote, hoct, -⟩ := h.seq
  refine (melodyInv_iff_of_armed rfl).2 ⟨(Sequencer.inv_iff_of_armed rfl).2 ?_, hnote, hoct, h.voice, hact⟩
  exact ⟨hnote, hoct, idleTicks_pos hv, le_rfl, rfl⟩

/-- A step of MV, which keeps its note and ends it at most (R88). -/
theorem MelodyInv.step {p : Params} {q : Sequencer} {ps : PlayState} {v : Voice} (h : MelodyInv p q ps v)
    (hact : v.act = true) : MelodyInv p q ps v.step :=
  { h with
    voice := Voice.step_inv h.voice hact
    playing := fun _ => v.step_note ▸ h.playing hact }

/-- PLAYST after a cycle's bus access has legal codes (R58, R82). -/
theorem busAccess_play_legal {i : CycleInput} {s b : State} (hnote : s.play.note.toNat ≤ 8)
    (hoct : s.play.oct.toNat ≠ 3) (hb : busAccess i s = .next b) : b.play.note.toNat ≤ 8 ∧ b.play.oct.toNat ≠ 3 := by
  obtain ⟨-, h⟩ | ⟨v, note, oct, durMs, -, hdec, -, -, h, -⟩ := busAccess_fv_play_cases hb <;> rw [h]
  · exact ⟨hnote, hoct⟩
  · exact codes_of_decode_play hdec

/-- A bus access keeps the melody's part of the invariant: while FIRING it leaves it alone, and while ARMED it records
legal codes or reloads the timer (R81, R100, R119). -/
theorem busAccess_melodyInv {i : CycleInput} {s b : State} (hv : s.cfg.Valid) (hs : s.MelodyInv)
    (hb : busAccess i s = .next b) : b.MelodyInv := by
  obtain ⟨hcfg, -, -, -, hmv, -⟩ := busAccess_frame hb
  cases hst : s.seq.st with
  | firing => exact hs.congr hcfg (busAccess_seq_of_firing hb hst) (busAccess_play_of_firing hb hst) hmv
  | armed =>
    obtain ⟨hseq, hnote, hoct, hvoice⟩ := (melodyInv_iff_of_armed hst).1 hs
    have hseq' : b.seq.st = .armed ∧ b.seq.Inv s.cfg := by
      rw [busAccess_seq hb]
      split
      · exact ⟨hst, Sequencer.reload_inv hv hseq hst⟩
      · exact ⟨hst, hseq⟩
    obtain ⟨hnote', hoct'⟩ := busAccess_play_legal hnote hoct hb
    rw [State.MelodyInv, hcfg, hmv]
    exact (melodyInv_iff_of_armed hseq'.1).2 ⟨hseq'.2, hnote', hoct', hvoice⟩

/-- The voice of a melody note, loaded with it or the idle MV (R103). -/
theorem melodyVoice_getD_note {s : State} {v : Voice} (hidle : v.act = false)
    (hact : (s.melodyVoice.getD v).act = true) : (s.melodyVoice.getD v).note = s.seq.melIdx := by
  cases hw : s.melodyVoice with
  | none => rw [hw, Option.getD_none, hidle] at hact; cases hact
  | some w =>
    obtain ⟨n, hn, -, -, -, rfl⟩ := sounds_of_noteVoice hw
    exact hn.symm

/-- The sequencer's part of a cycle keeps the melody's part of the invariant, whichever of the rules R100 to R104 applies.
The state s starts the cycle; u is what the bus access and the voices have made of it. -/
theorem sequencerCycle_melodyInv {r : Bool} {s u : State} (hv : s.cfg.Valid) (hu : u.MelodyInv) (hcfg : u.cfg = s.cfg)
    (hr : s.seq.st = .firing → r = false) (hseq : r = false → u.seq = s.seq)
    (hidle : s.mv.act = false → u.mv.act = false) : (sequencerCycle r s u).MelodyInv := by
  have hvu : u.cfg.Valid := hcfg ▸ hv
  obtain ⟨-, -, h⟩ | ⟨hexp, h⟩ | ⟨hst, hnot, hcnt, h⟩ | ⟨-, -, h⟩ | ⟨hst, hact, hidx, h⟩ | ⟨hst, hact, -, h⟩ |
    ⟨-, -, -, h⟩ := sequencerCycle_cases r s u <;> rw [h]
  · exact hu
  · simp only [State.idleExpires, Bool.and_eq_true, Bool.not_eq_true', decide_eq_true_eq] at hexp
    obtain ⟨⟨hst, hnot⟩, -⟩ := hexp
    exact hu.melodyEntry hvu (hseq hnot ▸ hst)
  · have hsame := hseq hnot
    exact hu.countIdle (hsame ▸ hst) (hsame ▸ hcnt)
  · exact hu
  · have hsame := hseq (hr hst)
    rw [nextNote_eq]
    refine hu.melodyNote (hsame ▸ hst) (hsame ▸ hidx) ?_ ?_
    · exact noteVoice_getD_inv hu.voice (melOct_toNat_ne_three hv)
    · rw [hsame]
      exact melodyVoice_getD_note (hidle hact)
  · exact hu.melodyExit hvu (hidle hact)
  · exact hu

/-- The bus access, the voices and the sequencer together keep the melody's part of the invariant. -/
theorem unitsCycle_melodyInv {i : CycleInput} {s b : State} (hv : s.cfg.Valid) (hs : s.MelodyInv)
    (hb : busAccess i s = .next b) : (unitsCycle i s b).MelodyInv := by
  obtain ⟨hbcfg, -, -, -, hbmv, -⟩ := busAccess_frame hb
  have hbInv := busAccess_melodyInv hv hs hb
  obtain ⟨u, hcfg, hseq, hplay, hmv, hseq', hplay', hmv'⟩ := unitsCycle_sequencer i s b
  have hu : u.MelodyInv := by
    rw [State.MelodyInv, hcfg, hseq, hplay, hmv]
    split
    case isTrue hact => exact hbmv ▸ hbInv.step (hbmv ▸ hact)
    case isFalse => exact hbInv
  refine (sequencerCycle_melodyInv (r := rearmAccepted i s) hv hu (hcfg.trans hbcfg) (rearmAccepted_of_firing i)
    (fun hnot => ?_) (fun hidle => ?_)).congr ?_ hseq' hplay' hmv'
  · rw [hseq, busAccess_seq hb, hnot]; rfl
  · simp [hmv, State.mvSteps, hidle, hbmv]
  · simp [hcfg]

/-! ### The samples (R24, R26, R92, R95, R96) -/

/-- A sample has DAC_W bits (R92). -/
theorem sample_lt (p : Params) (i : BitVec 7) (div : VolLevel) :
    (sample p i div).toNat < 2 ^ p.dacW := by
  have hpos : (0 : Int) < 2 ^ p.dacW := by positivity
  unfold sample
  split <;> rw [BitVec.toNat_ofNat]
  case isTrue h =>
    have hbounds : 0 ≤ sampleInt p ⟨i.toNat, h.1⟩ div.code.toNat ∧
        sampleInt p ⟨i.toNat, h.1⟩ div.code.toNat ≤ 2 ^ p.dacW - 1 :=
      clamp_bounds (by omega)
    exact (Nat.mod_le _ _).trans_lt (by zify; omega)
  case isFalse => exact (Nat.mod_le _ _).trans_lt (Nat.mod_lt _ (Nat.two_pow_pos _))

/-- The audio output stays within DAC_W bits (R26). -/
theorem nextDac_out_lt {s : State} (hs : s.dac.out.toNat < 2 ^ s.cfg.dacW) :
    s.nextDac.out.toNat < 2 ^ s.cfg.dacW := by
  unfold State.nextDac
  split
  · exact sample_lt ..
  · split
    · exact sample_lt ..
    · exact hs

/-- The sampler's registers stay within ADC_W bits (R24). -/
theorem VolSampler.tick_lt {p : Params} {a : VolSampler} (hdata : a.data.toNat < 2 ^ p.adcW)
    (hraw : a.raw.toNat < 2 ^ p.adcW) (done : Bool) (port : BitVec 16) :
    (a.tick p done port).data.toNat < 2 ^ p.adcW ∧ (a.tick p done port).raw.toNat < 2 ^ p.adcW := by
  rw [tick_eq]
  constructor
  · cases done
    · exact hdata
    · exact adcPort_lt p port
  · cases a.pend
    · exact hraw
    · exact hdata

/-! ### The whole invariant -/

/-- The invariant of the block, unit by unit. -/
theorem State.inv_iff (s : State) :
    s.Inv ↔ s.cfg.Valid ∧ s.rng.Inv s.cfg ∧ s.fv.Inv ∧ s.MelodyInv ∧
      (s.adc.data.toNat < 2 ^ s.cfg.adcW ∧ s.adc.raw.toNat < 2 ^ s.cfg.adcW) ∧ s.dac.out.toNat < 2 ^ s.cfg.dacW ∧
      s.oct.sel = octaveDecode s.oct.btn1Q s.oct.btn2Q := by
  constructor
  · rintro ⟨hv, hrng, hfv, hmv, hseq, hdata, hraw, hdac, hnote, hoct, hplaying, hforced, hcurrent, hsel⟩
    exact ⟨hv, hrng, hfv, ⟨hseq, hnote, hoct, hmv, hplaying, hforced, hcurrent⟩, ⟨hdata, hraw⟩, hdac, hsel⟩
  · rintro ⟨hv, hrng, hfv, ⟨hseq, hnote, hoct, hmv, hplaying, hforced, hcurrent⟩, ⟨hdata, hraw⟩, hdac, hsel⟩
    exact ⟨hv, hrng, hfv, hmv, hseq, hdata, hraw, hdac, hnote, hoct, hplaying, hforced, hcurrent, hsel⟩

theorem Voice.reset_inv : Voice.reset.Inv := by decide

theorem inactive_toNat_ne_three : inactive.toNat ≠ 3 := by decide

/-- The reset state of a valid build is in range (R135). -/
theorem resetOf_inv {p : Params} (hv : p.Valid) : (State.resetOf p).Inv := by
  have hcenter : p.dacCenter.toNat < 2 ^ p.dacW := by
    obtain ⟨-, -, -, -, -, -, -, -, h, -⟩ := hv
    exact h
  have hseq : (State.resetOf p).seq.Inv p :=
    (Sequencer.inv_iff_of_armed rfl).2 ⟨le_rfl, inactive_toNat_ne_three, idleTicks_pos hv, le_rfl, rfl⟩
  refine (State.inv_iff _).2 ⟨hv, (Ranger.inv_iff_phaseInv _ _).2 ⟨rfl, rfl⟩, Voice.reset_inv, ?_, ?_, hcenter, rfl⟩
  · exact (melodyInv_iff_of_armed rfl).2 ⟨hseq, le_rfl, inactive_toNat_ne_three, Voice.reset_inv, rfl⟩
  · exact ⟨Nat.two_pow_pos _, Nat.two_pow_pos _⟩

/-- A cycle without reset keeps the invariant: each unit keeps its own part. -/
theorem unitsCycle_inv {i : CycleInput} {s b : State} (hs : s.Inv) (hb : busAccess i s = .next b) :
    (unitsCycle i s b).endCycle.Inv := by
  obtain ⟨hv, hrng, hfv, hmelody, ⟨hdata, hraw⟩, hdac, -⟩ := s.inv_iff.1 hs
  obtain ⟨hbcfg, -⟩ := busAccess_frame hb
  have hcfg : (unitsCycle i s b).endCycle.cfg = s.cfg := by simp [hbcfg]
  rw [State.inv_iff, hcfg]
  refine ⟨hv, unitsCycle_rng_inv hv hrng hb, unitsCycle_fv_inv hfv hb, unitsCycle_melodyInv hv hmelody hb, ?_, ?_, ?_⟩
  · rw [State.endCycle_adc, unitsCycle_adc]
    exact VolSampler.tick_lt hdata hraw ..
  · rw [State.endCycle_dac, unitsCycle_dac]
    exact nextDac_out_lt hdac
  · rw [State.endCycle_oct, unitsCycle_oct]

/-- Settles O20, by the two forms of a step: a reset, or a bus access followed by the units. -/
theorem stepKeepsInvariant : Obligations.StepKeepsInvariant := by
  unfold Obligations.StepKeepsInvariant
  intro s t hs h
  obtain ⟨hv, ⟨-, rfl⟩ | ⟨b, -, hb, rfl⟩⟩ := step_next_cases h
  · exact resetOf_inv hv
  · exact unitsCycle_inv hs hb

/-! ### Who writes PLAYST (R28) -/

/-- A PLAY that decodes while ARMED with FV idle is accepted (R81). -/
theorem acceptedPlay_eq_some {i : CycleInput} {s : State} {v : Word} {note : NoteCode} {oct : OctCode}
    {durMs : BitVec 16} (hcmd : cmdWord i = some v) (hdec : decode v = .ok (.play note oct durMs))
    (harmed : s.seq.st = .armed) (hidle : s.fv.act = false) : acceptedPlay i s = some ⟨note, oct⟩ := by
  simp [acceptedPlay, hcmd, hdec, harmed, hidle]

/-- A bus access that changes PLAYST is an accepted PLAY, and PLAYST is its operands (R82). -/
theorem acceptedPlay_of_play_ne {i : CycleInput} {s b : State} (hb : busAccess i s = .next b)
    (hne : b.play ≠ s.play) : acceptedPlay i s = some b.play := by
  obtain ⟨-, h⟩ | ⟨v, note, oct, durMs, hcmd, hdec, harmed, hidle, h, -⟩ := busAccess_fv_play_cases hb
  · exact absurd h hne
  · rw [h]
    exact acceptedPlay_eq_some hcmd hdec harmed hidle

/-- PLAYST after the bus access and the units of a cycle (R28): as the bus access leaves it, with MEL_OCT forced at melody
entry, with the note of a melody note, or the snapshot at melody exit. -/
theorem unitsCycle_play_cases {i : CycleInput} {s b : State} (hb : busAccess i s = .next b) :
    (unitsCycle i s b).play = b.play ∨
    (s.seq.st = .armed ∧ s.seq.idleCnt.toNat ≤ 1 ∧ (unitsCycle i s b).seq.st = .firing ∧
      (unitsCycle i s b).play = ⟨b.play.note, s.cfg.melOct⟩) ∨
    (s.seq.st = .firing ∧ s.mv.act = false ∧ s.seq.melIdx.toNat < 8 ∧
      (unitsCycle i s b).play = { s.play with note := s.seq.melIdx }) ∨
    (s.seq.st = .firing ∧ s.mv.act = false ∧ s.seq.melIdx = 8#4 ∧
      (unitsCycle i s b).play = ⟨s.seq.snapNote, s.seq.snapOct⟩) := by
  obtain ⟨hbcfg, -⟩ := busAccess_frame hb
  obtain ⟨u, hcfg, hseq, hplay, -, hseq', hplay', -⟩ := unitsCycle_sequencer i s b
  rw [hseq', hplay', ← hplay]
  obtain ⟨-, -, h⟩ | ⟨hexp, h⟩ | ⟨-, -, -, h⟩ | ⟨-, -, h⟩ | ⟨hst, hact, hidx, h⟩ | ⟨hst, hact, hidx, h⟩ | ⟨-, -, -, h⟩ :=
    sequencerCycle_cases (rearmAccepted i s) s u <;> rw [h]
  · exact .inl rfl
  · simp only [State.idleExpires, Bool.and_eq_true, decide_eq_true_eq] at hexp
    obtain ⟨⟨hst, -⟩, hcnt⟩ := hexp
    exact .inr (.inl ⟨hst, hcnt, rfl, by simp [hcfg, hbcfg]⟩)
  · exact .inl rfl
  · exact .inl rfl
  · have hplayS := hplay.trans (busAccess_play_of_firing hb hst)
    have hseqS := hseq.trans (busAccess_seq_of_firing hb hst)
    exact .inr (.inr (.inl ⟨hst, hact, hidx, by simp [nextNote_eq, hplayS, hseqS]⟩))
  · have hseqS := hseq.trans (busAccess_seq_of_firing hb hst)
    exact .inr (.inr (.inr ⟨hst, hact, BitVec.eq_of_toNat_eq hidx, by simp [hseqS]⟩))
  · exact .inl rfl

/-- Settles O23: if the units change PLAYST the melody's rule says which writer it is, else the bus access changed it. -/
theorem playstHasFourWriters : Obligations.PlaystHasFourWriters := by
  unfold Obligations.PlaystHasFourWriters
  intro s t hr h hne
  obtain ⟨-, ⟨hr', -⟩ | ⟨b, -, hb, rfl⟩⟩ := step_next_cases h
  · rw [hr] at hr'; cases hr'
  simp only [State.endCycle_play, State.endCycle_seq] at hne ⊢
  obtain hplay | ⟨hst, hcnt, hfiring, hplay⟩ | ⟨hst, hact, hidx, hplay⟩ | ⟨hst, hact, hidx, hplay⟩ :=
    unitsCycle_play_cases hb <;> rw [hplay] at hne ⊢
  · exact .inl ⟨b.play, acceptedPlay_of_play_ne hb hne, rfl⟩
  · exact .inr (.inl ⟨hst, hcnt, hfiring, rfl⟩)
  · exact .inr (.inr (.inl ⟨hst, hact, hidx, rfl⟩))
  · exact .inr (.inr (.inr ⟨hst, hact, hidx, rfl⟩))

/-! ### The ADC event (R95 to R98) -/

theorem volumeLevel_of_lt {r : BitVec 16} (h : r.toNat < 500) : volumeLevel r = .loud := by
  rw [volumeLevel, volT1, if_pos h]

theorem volumeLevel_of_between {r : BitVec 16} (hlo : 500 ≤ r.toNat) (hhi : r.toNat ≤ 3500) : volumeLevel r = .soft := by
  rw [volumeLevel, volT1, volT2, if_neg (by omega), if_pos hhi]

theorem volumeLevel_of_gt {r : BitVec 16} (h : 3500 < r.toNat) : volumeLevel r = .mute := by
  rw [volumeLevel, volT1, volT2, if_neg (by omega), if_neg (by omega)]

/-- The block reads the low ADC_W bits of the port's 16-bit carrier. -/
theorem adcPort_toNat (p : Params) (v : BitVec 16) : (adcPort p v).toNat = v.toNat % 2 ^ p.adcW := by
  rw [adcPort, BitVec.toNat_ofNat, Nat.mod_eq_of_lt ((Nat.mod_le ..).trans_lt v.isLt)]

theorem VolSampler.tick_pend (p : Params) (done : Bool) (port : BitVec 16) (a : VolSampler) :
    (a.tick p done port).pend = done := by
  rw [tick_eq]

theorem VolSampler.tick_data_of_strobe (p : Params) (port : BitVec 16) (a : VolSampler) :
    (a.tick p true port).data = adcPort p port := by
  rw [tick_eq]; rfl

theorem VolSampler.tick_data_of_no_strobe (p : Params) (port : BitVec 16) (a : VolSampler) :
    (a.tick p false port).data = a.data := by
  rw [tick_eq]; rfl

theorem VolSampler.tick_of_pend {a : VolSampler} (h : a.pend = true) (p : Params) (done : Bool) (port : BitVec 16) :
    (a.tick p done port).raw = a.data ∧ (a.tick p done port).vlevel = volumeLevel a.data := by
  simp [tick_eq, h]

theorem VolSampler.tick_of_not_pend {a : VolSampler} (h : a.pend = false) (p : Params) (done : Bool) (port : BitVec 16) :
    (a.tick p done port).raw = a.raw ∧ (a.tick p done port).vlevel = a.vlevel := by
  simp [tick_eq, h]

/-- A flag that is set stays set where bits are only set. -/
theorem flag_of_sticky_or {s t : State} {c : Cond} {m : BitVec 9} (h : s.flag c = true)
    (ht : t.sticky = s.sticky ||| m) : t.flag c = true := by
  simp only [State.flag] at h ⊢
  simp [ht, h]

/-- The sequencer's part of a cycle clears no sticky bit. -/
theorem sequencerCycle_flag (r : Bool) (s : State) {t : State} {c : Cond} (h : t.flag c = true) :
    (sequencerCycle r s t).flag c = true := by
  obtain ⟨-, -, heq⟩ | ⟨-, heq⟩ | ⟨-, -, -, heq⟩ | ⟨-, -, heq⟩ | ⟨-, -, -, heq⟩ | ⟨-, -, -, heq⟩ | ⟨-, -, -, heq⟩ :=
    sequencerCycle_cases r s t <;> rw [heq]
  · exact h
  · exact flag_of_sticky_or h (State.melodyEntry_sticky t)
  · exact h
  · exact h
  · rw [nextNote_eq]; exact h
  · exact flag_of_sticky_or h (State.melodyExit_sticky t)
  · exact h

/-- A handled ADC event sets VOL_UPD, whatever the bus access of the cycle clears (R41, R98). -/
theorem unitsCycle_volUpd {s : State} (i : CycleInput) (t : State) (hpend : s.adc.pend = true) :
    (unitsCycle i s t).flag .volUpd = true := by
  have hset : (samplerCycle i s (rangerCycle i s t)).flag .volUpd = true := by
    simp [State.flag, hpend, Cond.mask, Cond.pos]
  have hvoices := flag_of_sticky_or hset (voicesCycle_sticky s _)
  exact sequencerCycle_flag _ s hvoices

/-- The VolumeSampler after a step without reset, and the flag a handled event sets. -/
theorem stepOn_adc {s : State} {i : CycleInput} (hv : s.cfg.Valid) (hr : i.live) :
    ∃ t, stepOn i s = .next t ∧ t.adc = s.adc.tick s.cfg i.adcDone i.adcData ∧
      (s.adc.pend = true → t.flag .volUpd = true) := by
  obtain ⟨b, hb⟩ := busAccess_total i (s.withInput i)
  refine ⟨_, stepOn_live hv hr hb, ?_, fun hpend => ?_⟩
  · rw [State.endCycle_adc, unitsCycle_adc]
    rfl
  · exact unitsCycle_volUpd (s := s.withInput i) i b hpend

/-- A step on given inputs answers the parameters it is given. -/
theorem stepOn_keeps_cfg {i : CycleInput} {s t : State} (h : stepOn i s = .next t) : t.cfg = s.cfg :=
  step_keeps_cfg (s := s.withInput i) h

/-- The two cycles of an ADC event (R95, R96): its strobe latches the data, and the next cycle handles it. -/
theorem runOn_adc_event {s : State} {i j : CycleInput} (hv : s.cfg.Valid) (hi : i.live) (hj : j.live)
    (hstrobe : i.adcDone = true) (hdata : i.adcData.toNat < 2 ^ s.cfg.adcW) :
    ∃ t, runOn [i, j] s = .next t ∧ t.adc.raw = i.adcData ∧ t.adc.pend = j.adcDone ∧ t.flag .volUpd = true ∧
      t.adc.vlevel = volumeLevel i.adcData := by
  obtain ⟨u, hu, huadc, -⟩ := stepOn_adc hv hi
  have hcfg := stepOn_keeps_cfg hu
  have hpend : u.adc.pend = true := by rw [huadc, VolSampler.tick_pend, hstrobe]
  have hlatched : u.adc.data = i.adcData := by
    refine BitVec.eq_of_toNat_eq ?_
    rw [huadc, hstrobe, VolSampler.tick_data_of_strobe, adcPort_toNat, Nat.mod_eq_of_lt hdata]
  obtain ⟨t, ht, htadc, hflag⟩ := stepOn_adc (s := u) (hcfg ▸ hv) hj
  obtain ⟨hraw, hlevel⟩ := VolSampler.tick_of_pend hpend u.cfg j.adcDone j.adcData
  refine ⟨t, by rw [runOn_cons_next hu, runOn_cons_next ht, runOn_nil], ?_, ?_, hflag hpend, ?_⟩
  · rw [htadc, hraw, hlatched]
  · rw [htadc, VolSampler.tick_pend]
  · rw [htadc, hlevel, hlatched]

/-- Settles O49: the sampler's update field by field, and the two cycles of an event. -/
theorem adcEventSetsVolume : Obligations.AdcEventSetsVolume := by
  unfold Obligations.AdcEventSetsVolume
  refine ⟨fun s i hv hr => ?_, fun s i j hv hi hj hstrobe hdata => ?_⟩
  · obtain ⟨t, ht, hadc, hflag⟩ := stepOn_adc hv hr
    refine ⟨t, ht, ?_, fun hd => ?_, fun hd => ?_, fun hpend => ?_, fun hpend => ?_⟩ <;> rw [hadc]
    · exact VolSampler.tick_pend ..
    · rw [hd, VolSampler.tick_data_of_strobe, adcPort_toNat]
    · rw [hd, VolSampler.tick_data_of_no_strobe]
    · obtain ⟨hraw, hlevel⟩ := VolSampler.tick_of_pend hpend s.cfg i.adcDone i.adcData
      rw [hlevel]
      exact ⟨hraw, hflag hpend, volumeLevel_of_lt, volumeLevel_of_between, volumeLevel_of_gt⟩
    · exact VolSampler.tick_of_not_pend hpend ..
  · obtain ⟨t, ht, hraw, hpend, hflag, hlevel⟩ := runOn_adc_event hv hi hj hstrobe hdata
    exact ⟨t, ht, hraw, hpend, hflag, fun h => hlevel.trans (volumeLevel_of_lt h),
      fun hlo hhi => hlevel.trans (volumeLevel_of_between hlo hhi), fun h => hlevel.trans (volumeLevel_of_gt h)⟩

end Sys2Proof.Machine
end

/-! PROOFS. The register bus: which rule a cycle's access follows, a step as a function of that access, what reads and
ignored writes leave alone, the registers' fields, the sticky bits, and the statements on them. -/

section
namespace Sys2Proof

/-! ### The slot a cycle's access writes (R34, R35, R37) -/

/-- The cycle's access is a write of slot k. -/
abbrev CycleInput.Writes (i : CycleInput) (k : BitVec 6) : Prop :=
  i.busEn = true ∧ i.busWe = true ∧ Machine.slotOf i.busAddr = k

theorem CycleInput.slotOf_of_writes {i : CycleInput} {k : BitVec 6} (h : i.Writes k) : Machine.slotOf i.busAddr = k := by
  obtain ⟨-, -, hslot⟩ := h
  exact hslot

/-- A cycle writes one slot at most. -/
theorem CycleInput.writes_unique {i : CycleInput} {k l : BitVec 6} (hk : i.Writes k) (hl : i.Writes l) : k = l :=
  (slotOf_of_writes hk).symm.trans (slotOf_of_writes hl)

/-- The cycle's access, if it has one, is a read or a write of a slot no write rule stands for (R36, R53). -/
def CycleInput.WritesNothing (i : CycleInput) : Prop := ∀ k, i.Writes k → 4 ≤ k.toNat

theorem CycleInput.writesNothing_noAccess (i : CycleInput) : i.noAccess.WritesNothing := by
  rintro k ⟨hen, -⟩
  cases hen

theorem CycleInput.writesNothing_of_read {i : CycleInput} (hwe : i.busWe = false) : i.WritesNothing := by
  rintro k ⟨-, hwe', -⟩
  rw [hwe] at hwe'; cases hwe'

theorem CycleInput.writesNothing_of_slot {i : CycleInput} (h : 4 ≤ (Machine.slotOf i.busAddr).toNat) :
    i.WritesNothing := by
  rintro k ⟨-, -, rfl⟩
  exact h

theorem CycleInput.writesStatus_iff (i : CycleInput) : i.writesStatus = true ↔ i.Writes 1#6 := by
  simp [writesStatus, Writes, and_assoc]

@[simp] theorem upperField_toNat (v : Word) : (upperField v).toNat = v.toNat / 16 := by
  have := v.isLt
  simp [upperField, Nat.shiftRight_eq_div_pow]
  omega

end Sys2Proof

namespace Sys2Proof.Machine

theorem cmdWord_eq_some_iff (i : CycleInput) (v : Word) : cmdWord i = some v ↔ i.Writes 0#6 ∧ i.busWdata = v := by
  simp [cmdWord, CycleInput.Writes, and_assoc]

theorem cmdWord_eq_none {i : CycleInput} (h : ¬ i.Writes 0#6) : cmdWord i = none :=
  Option.eq_none_iff_forall_ne_some.2 fun v hv => h ((cmdWord_eq_some_iff i v).1 hv).1

theorem cmdWord_of_writes_ne {i : CycleInput} {k : BitVec 6} (h : i.Writes k) (hk : k ≠ 0#6) : cmdWord i = none :=
  cmdWord_eq_none fun h0 => hk (CycleInput.writes_unique h h0)

theorem cmdWord_of_writesNothing {i : CycleInput} (h : i.WritesNothing) : cmdWord i = none :=
  cmdWord_eq_none fun h0 => absurd (h _ h0) (by decide)

/-- Without a CMD write no REARM is accepted. -/
theorem rearmAccepted_of_no_cmd {i : CycleInput} (h : cmdWord i = none) (s : State) : rearmAccepted i s = false := by
  rw [rearmAccepted, h]

/-! ### The write rule of each slot (R39, R41, R43, R44, R53) -/

theorem memWrite_status {a : BitVec 8} (h : slotOf a = 1#6) (s : State) (v : Word) :
    memWrite s a v = .next (s.clearStatus v) := by
  simp [memWrite, h]

theorem memWrite_irqEn {a : BitVec 8} (h : slotOf a = 2#6) (s : State) (v : Word) :
    memWrite s a v = .next (s.writeIrqEn v) := by
  simp [memWrite, h]

theorem memWrite_tmo {a : BitVec 8} (h : slotOf a = 3#6) (s : State) (v : Word) :
    memWrite s a v = .next (s.writeTmo v) := by
  simp [memWrite, h]

theorem memWrite_readOnly {a : BitVec 8} (h : 4 ≤ (slotOf a).toNat) (s : State) (v : Word) :
    memWrite s a v = .next s := by
  unfold memWrite
  split
  case h_5 => rfl
  all_goals omega

theorem busAccess_of_writes {i : CycleInput} {k : BitVec 6} (h : i.Writes k) (s : State) :
    busAccess i s = memWrite s i.busAddr i.busWdata := by
  obtain ⟨hen, hwe, -⟩ := h
  simp [busAccess, hen, hwe]

theorem busAccess_of_writes_status {i : CycleInput} (h : i.Writes 1#6) (s : State) :
    busAccess i s = .next (s.clearStatus i.busWdata) := by
  rw [busAccess_of_writes h, memWrite_status (CycleInput.slotOf_of_writes h)]

theorem busAccess_of_writes_irqEn {i : CycleInput} (h : i.Writes 2#6) (s : State) :
    busAccess i s = .next (s.writeIrqEn i.busWdata) := by
  rw [busAccess_of_writes h, memWrite_irqEn (CycleInput.slotOf_of_writes h)]

theorem busAccess_of_writes_tmo {i : CycleInput} (h : i.Writes 3#6) (s : State) :
    busAccess i s = .next (s.writeTmo i.busWdata) := by
  rw [busAccess_of_writes h, memWrite_tmo (CycleInput.slotOf_of_writes h)]

/-- A read, an ignored write or no access leaves the state alone (R35, R36, R53). -/
theorem busAccess_of_writesNothing {i : CycleInput} (h : i.WritesNothing) (s : State) : busAccess i s = .next s := by
  by_cases hw : i.Writes (slotOf i.busAddr)
  · rw [busAccess_of_writes hw, memWrite_readOnly (h _ hw)]
  · have hno : (i.busEn && i.busWe) = false := by simpa [CycleInput.Writes] using hw
    simp [busAccess, hno]

/-- The five kinds of a cycle's access, by the slot it writes. -/
theorem writes_cases (i : CycleInput) :
    (∃ v, cmdWord i = some v) ∨ i.Writes 1#6 ∨ i.Writes 2#6 ∨ i.Writes 3#6 ∨ i.WritesNothing := by
  by_cases hw : i.Writes (slotOf i.busAddr)
  · obtain ⟨hen, hwe, -⟩ := hw
    by_cases h4 : 4 ≤ (slotOf i.busAddr).toNat
    · exact .inr (.inr (.inr (.inr (CycleInput.writesNothing_of_slot h4))))
    · have hslot : slotOf i.busAddr = 0#6 ∨ slotOf i.busAddr = 1#6 ∨ slotOf i.busAddr = 2#6 ∨
          slotOf i.busAddr = 3#6 := by
        bv_omega
      obtain h0 | h1 | h2 | h3 := hslot
      · exact .inl ⟨_, (cmdWord_eq_some_iff i _).2 ⟨⟨hen, hwe, h0⟩, rfl⟩⟩
      · exact .inr (.inl ⟨hen, hwe, h1⟩)
      · exact .inr (.inr (.inl ⟨hen, hwe, h2⟩))
      · exact .inr (.inr (.inr (.inl ⟨hen, hwe, h3⟩)))
  · refine .inr (.inr (.inr (.inr fun k hk => absurd ?_ hw)))
    rwa [CycleInput.slotOf_of_writes hk]

/-- No command changes IRQ_EN or TMO. -/
theorem cmdWrite_irqEn_tmo {s t : State} {v : Word} (h : cmdWrite s v = .next t) : t.irqEn = s.irqEn ∧ t.tmo = s.tmo := by
  unfold cmdWrite at h
  split at h
  · obtain ⟨-, -, -, hirq, htmo, -⟩ := exec_frame h
    exact ⟨hirq, htmo⟩
  · cases h
    exact ⟨rfl, rfl⟩

/-- Only a write of IRQ_EN changes it (R43). -/
theorem busAccess_irqEn {i : CycleInput} {s b : State} (hb : busAccess i s = .next b) (h : ¬ i.Writes 2#6) :
    b.irqEn = s.irqEn := by
  obtain ⟨v, hcmd⟩ | h1 | h2 | h3 | h0 := writes_cases i
  · rw [busAccess_of_cmdWord hcmd] at hb
    exact (cmdWrite_irqEn_tmo hb).1
  · rw [busAccess_of_writes_status h1] at hb; cases hb; rfl
  · exact absurd h2 h
  · rw [busAccess_of_writes_tmo h3] at hb; cases hb; rfl
  · rw [busAccess_of_writesNothing h0] at hb; cases hb; rfl

/-- Only a write of TMO changes it (R44). -/
theorem busAccess_tmo {i : CycleInput} {s b : State} (hb : busAccess i s = .next b) (h : ¬ i.Writes 3#6) :
    b.tmo = s.tmo := by
  obtain ⟨v, hcmd⟩ | h1 | h2 | h3 | h0 := writes_cases i
  · rw [busAccess_of_cmdWord hcmd] at hb
    exact (cmdWrite_irqEn_tmo hb).2
  · rw [busAccess_of_writes_status h1] at hb; cases hb; rfl
  · rw [busAccess_of_writes_irqEn h2] at hb; cases hb; rfl
  · exact absurd h3 h
  · rw [busAccess_of_writesNothing h0] at hb; cases hb; rfl

/-! ### A step as a function of its bus access (R111)

The script is part of the state a step reads, and IRQ_EN and TMO are registers no unit writes. The three pass through the
units unchanged, so that a step on given inputs is the units' update of what the bus access leaves. -/

/-- s with its script, IRQ_EN and TMO replaced. -/
def State.withSide (s : State) (script : List CycleInput) (irqEn : BitVec 9) (tmo : BitVec 32) : State :=
  { s with script := script, irqEn := irqEn, tmo := tmo }

theorem State.raiseIf_withSide (t : State) (b : Bool) (c : Cond) (l : List CycleInput) (e : BitVec 9) (x : BitVec 32) :
    (t.withSide l e x).raiseIf b c = (t.raiseIf b c).withSide l e x := by
  cases b <;> rfl

theorem rangerCycle_withSide (i : CycleInput) (s t : State) (l : List CycleInput) (e : BitVec 9) (x : BitVec 32) :
    rangerCycle i s (t.withSide l e x) = (rangerCycle i s t).withSide l e x := by
  simp only [rangerCycle, ← State.raiseIf_withSide]
  split <;> rfl

theorem samplerCycle_withSide (i : CycleInput) (s t : State) (l : List CycleInput) (e : BitVec 9) (x : BitVec 32) :
    samplerCycle i s (t.withSide l e x) = (samplerCycle i s t).withSide l e x := by
  simp only [samplerCycle, ← State.raiseIf_withSide]
  rfl

theorem voicesCycle_withSide (s t : State) (l : List CycleInput) (e : BitVec 9) (x : BitVec 32) :
    voicesCycle s (t.withSide l e x) = (voicesCycle s t).withSide l e x := by
  simp only [voicesCycle, ← State.raiseIf_withSide]
  cases s.fvSteps <;> cases s.mvSteps <;> rfl

theorem sequencerCycle_withSide (r : Bool) (s t : State) (l : List CycleInput) (e : BitVec 9) (x : BitVec 32) :
    sequencerCycle r s (t.withSide l e x) = (sequencerCycle r s t).withSide l e x := by
  simp only [sequencerCycle, nextNote_eq]
  repeat' split
  all_goals rfl

theorem unitsCycle_withSide (i : CycleInput) (s t : State) (l : List CycleInput) (e : BitVec 9) (x : BitVec 32) :
    unitsCycle i s (t.withSide l e x) = (unitsCycle i s t).withSide l e x := by
  simp only [unitsCycle, rangerCycle_withSide, samplerCycle_withSide, voicesCycle_withSide, sequencerCycle_withSide]
  rfl

theorem unitsCycle_withInput (i k : CycleInput) (s t : State) :
    unitsCycle i s (t.withInput k) = (unitsCycle i s t).withInput k := by
  have hside : t.withInput k = t.withSide (k :: t.script) t.irqEn t.tmo := rfl
  rw [hside, unitsCycle_withSide, ← unitsCycle_script i s t, ← unitsCycle_irqEn i s t, ← unitsCycle_tmo i s t]
  rfl

theorem unitsCycle_writeIrqEn (i : CycleInput) (s t : State) (v : Word) :
    unitsCycle i s (t.writeIrqEn v) = (unitsCycle i s t).writeIrqEn v := by
  have hside : t.writeIrqEn v = t.withSide t.script (stickyField v) t.tmo := rfl
  rw [hside, unitsCycle_withSide, ← unitsCycle_script i s t, ← unitsCycle_tmo i s t]
  rfl

theorem unitsCycle_writeTmo (i : CycleInput) (s t : State) (v : Word) :
    unitsCycle i s (t.writeTmo v) = (unitsCycle i s t).writeTmo v := by
  have hside : t.writeTmo v = t.withSide t.script t.irqEn v := rfl
  rw [hside, unitsCycle_withSide, ← unitsCycle_script i s t, ← unitsCycle_irqEn i s t]
  rfl

/-- The units read none of the script in the state at the start of the cycle. -/
theorem unitsCycle_of_withInput (i k : CycleInput) (s t : State) : unitsCycle i (s.withInput k) t = unitsCycle i s t :=
  rfl

/-- The units see the bus pins only as far as they make up an accepted REARM. -/
theorem unitsCycle_congr {i j : CycleInput} {s : State} (t : State) (hpins : i.noAccess = j.noAccess)
    (hrearm : rearmAccepted i s = rearmAccepted j s) : unitsCycle i s t = unitsCycle j s t := by
  have h : ∀ r : Bool, ∀ k : CycleInput,
      octaveCycle k (sequencerCycle r s (voicesCycle s (samplerCycle k s (rangerCycle k s t)))) =
      octaveCycle k.noAccess
        (sequencerCycle r s (voicesCycle s (samplerCycle k.noAccess s (rangerCycle k.noAccess s t)))) :=
    fun _ _ => rfl
  rw [unitsCycle, unitsCycle, h _ i, h _ j, hpins, hrearm]

/-- r with f applied to the next state it answers. -/
def mapNext (f : State → State) : Result → Result
  | .next t => .next (f t)
  | .fault e => .fault e
  | .refused e => .refused e

/-- No command reads or writes the script. -/
theorem exec_withInput (j : Instr) (s : State) (k : CycleInput) :
    exec j (s.withInput k) = mapNext (State.withInput · k) (exec j s) := by
  cases j with
  | nop => rfl
  | reserved4to7 => rfl
  | reserved8toF => rfl
  | measure =>
    simp only [exec, execMeasure, apply_ite (mapNext _)]
    rfl
  | rearm =>
    simp only [exec, execRearm, apply_ite (mapNext _)]
    rfl
  | play note oct durMs =>
    simp only [exec, execPlay, apply_ite (mapNext _), State.withInput_cfg, State.withInput_adc]
    cases noteVoice s.cfg note oct s.adc.vlevel durMs <;> rfl

/-- No bus access reads or writes the script. -/
theorem busAccess_withInput {i : CycleInput} {s t : State} (k : CycleInput) (h : busAccess i s = .next t) :
    busAccess i (s.withInput k) = .next (t.withInput k) := by
  obtain ⟨v, hcmd⟩ | hw | hw | hw | hw := writes_cases i
  · rw [busAccess_of_cmdWord hcmd] at h ⊢
    unfold cmdWrite at h ⊢
    split at h
    · rw [exec_withInput, h]; rfl
    · cases h; rfl
  · rw [busAccess_of_writes_status hw] at h ⊢; cases h; rfl
  · rw [busAccess_of_writes_irqEn hw] at h ⊢; cases h; rfl
  · rw [busAccess_of_writes_tmo hw] at h ⊢; cases h; rfl
  · rw [busAccess_of_writesNothing hw] at h ⊢; cases h; rfl

/-- A live step on given inputs: the units' update of what the bus access leaves, with the cycle counted. -/
theorem stepOn_of_busAccess {i : CycleInput} {s b : State} (hv : s.cfg.Valid) (hr : i.live)
    (hb : busAccess i s = .next b) : stepOn i s = .next { unitsCycle i s b with cycle := s.cycle + 1 } := by
  obtain ⟨-, -, hcycle, -⟩ := busAccess_frame hb
  rw [stepOn_live hv hr (busAccess_withInput i hb), unitsCycle_of_withInput, unitsCycle_withInput, ← hcycle,
    ← unitsCycle_cycle i s b]
  rfl

/-- A reset cycle reads none of the pins but `rst` (R135). -/
theorem stepOn_of_rst {i : CycleInput} {s : State} (hv : s.cfg.Valid) (hr : i.rst = true) :
    stepOn i s = .next { resetCycle s with cycle := s.cycle + 1 } :=
  step_reset (s := s.withInput i) hv hr

theorem stepOn_of_not_valid {s : State} (i : CycleInput) (hv : ¬ s.cfg.Valid) :
    stepOn i s = .refused .parametersOutOfRange :=
  if_neg hv

/-- Two cycles that differ in their access alone are the same step if what the accesses do is the same and neither of them
is a REARM the other is not. -/
theorem stepOn_congr {i j : CycleInput} {s : State} (hpins : i.noAccess = j.noAccess)
    (hacc : busAccess i s = busAccess j s) (hcmd : cmdWord i = cmdWord j) : stepOn i s = stepOn j s := by
  have hrst : i.rst = j.rst := show i.noAccess.rst = j.noAccess.rst by rw [hpins]
  by_cases hv : s.cfg.Valid
  · cases hr : i.rst with
    | true => rw [stepOn_of_rst hv hr, stepOn_of_rst hv (hrst.symm.trans hr)]
    | false =>
      obtain ⟨b, hb⟩ := busAccess_total i s
      have hrearm : rearmAccepted i s = rearmAccepted j s := by rw [rearmAccepted, rearmAccepted, hcmd]
      rw [stepOn_of_busAccess hv hr hb, stepOn_of_busAccess hv (hrst.symm.trans hr) (hacc.symm.trans hb),
        unitsCycle_congr b hpins hrearm]
  · rw [stepOn_of_not_valid i hv, stepOn_of_not_valid j hv]

/-- A cycle that writes nothing is one with no bus access (R36, R53). -/
theorem stepOn_of_writesNothing {i : CycleInput} (h : i.WritesNothing) (s : State) :
    stepOn i s = stepOn i.noAccess s := by
  have hno := i.writesNothing_noAccess
  refine stepOn_congr rfl ?_ ?_
  · rw [busAccess_of_writesNothing h, busAccess_of_writesNothing hno]
  · rw [cmdWord_of_writesNothing h, cmdWord_of_writesNothing hno]

/-- A live cycle with no bus access is the units' update alone. -/
theorem stepOn_noAccess {i : CycleInput} {s : State} (hv : s.cfg.Valid) (hr : i.live) :
    stepOn i.noAccess s = .next { unitsCycle i.noAccess s s with cycle := s.cycle + 1 } :=
  stepOn_of_busAccess hv hr (busAccess_of_writesNothing i.writesNothing_noAccess s)

/-- A write of a slot other than CMD gives the units what no access gives them. -/
theorem unitsCycle_of_writes {i : CycleInput} {k : BitVec 6} (h : i.Writes k) (hk : k ≠ 0#6) (s t : State) :
    unitsCycle i s t = unitsCycle i.noAccess s t := by
  refine unitsCycle_congr t rfl ?_
  rw [rearmAccepted_of_no_cmd (cmdWord_of_writes_ne h hk),
    rearmAccepted_of_no_cmd (cmdWord_of_writesNothing i.writesNothing_noAccess)]

/-! ### Reads and ignored writes (R36, R40, R41, R53) -/

/-- Settles O16: a read is an access that writes nothing, and without reset its answer is RegRead. -/
theorem readHasNoSideEffect : Obligations.ReadHasNoSideEffect := by
  unfold Obligations.ReadHasNoSideEffect
  intro s i hen hwe
  refine ⟨stepOn_of_writesNothing (CycleInput.writesNothing_of_read hwe) s, fun hr => ?_⟩
  simp [busRdata, hen, hwe, hr, memRead, slotOf]

/-- A write of STATUS sees the bits [12:4] of its word only (R41). -/
theorem stickyField_and_mask (v : Word) : stickyField (v &&& 0x00001FF0#32) = stickyField v := by
  refine BitVec.eq_of_getLsbD_eq fun k hk => ?_
  interval_cases k <;> simp [stickyField]

theorem stickyField_of_lt {v : Word} (h : v.toNat < 16) : stickyField v = 0#9 := by
  refine BitVec.eq_of_toNat_eq ?_
  simp [stickyField, Nat.shiftRight_eq_div_pow, Nat.div_eq_of_lt h]

theorem State.clearStatus_of_stickyField_eq_zero {v : Word} (h : stickyField v = 0#9) (s : State) :
    s.clearStatus v = s := by
  rw [State.clearStatus, h, BitVec.not_zero, BitVec.and_allOnes]

/-- Settles O17: slots 4 to 63 have no write rule, and the rule of STATUS reads the sticky field of its word only. -/
theorem readOnlyWriteIsIgnored : Obligations.ReadOnlyWriteIsIgnored := by
  unfold Obligations.ReadOnlyWriteIsIgnored
  intro s i hen hwe
  refine ⟨fun h4 => stepOn_of_writesNothing (CycleInput.writesNothing_of_slot h4) s, fun h1 => ?_⟩
  have hw : i.Writes 1#6 := ⟨hen, hwe, h1⟩
  have hcmd := cmdWord_of_writes_ne hw (by decide)
  refine ⟨stepOn_congr rfl ?_ ?_, fun hlow => stepOn_congr rfl ?_ ?_⟩
  · have hw' : CycleInput.Writes { i with busWdata := i.busWdata &&& 0x00001FF0#32 } 1#6 := hw
    rw [busAccess_of_writes_status hw, busAccess_of_writes_status hw', State.clearStatus, State.clearStatus,
      stickyField_and_mask]
  · rw [hcmd, cmdWord_of_writes_ne (i := { i with busWdata := i.busWdata &&& 0x00001FF0#32 }) hw (by decide)]
  · rw [busAccess_of_writes_status hw, State.clearStatus_of_stickyField_eq_zero (stickyField_of_lt hlow),
      busAccess_of_writesNothing i.writesNothing_noAccess]
  · rw [hcmd, cmdWord_of_writesNothing i.writesNothing_noAccess]

theorem memRead_of_slot {a : BitVec 8} {k : BitVec 6} (h : slotOf a = k) (s : State) : memRead s a = regRead s k := by
  rw [memRead, h]

/-- The bits of STATUS as a read gives them (R40). -/
theorem State.statusWord_getLsbD (s : State) {k : Nat} (hk : k < 32) : s.statusWord.getLsbD k =
    if k = 0 then decide (s.rng.st ≠ .idle)
    else if k = 1 then s.fv.act
    else if k = 2 then decide (s.seq.st = .firing)
    else if 4 ≤ k ∧ k ≤ 12 then s.sticky.getLsbD (k - 4)
    else false := by
  simp only [State.statusWord, BitVec.getLsbD_setWidth, BitVec.getLsbD_append, BitVec.getLsbD_ofBool]
  interval_cases k <;> simp [State.rngBusy, State.synBusy, State.seqFiring]

/-- Settles O28: the bits of the STATUS word, and a read of it is an access that writes nothing. -/
theorem statusReadBits : Obligations.StatusReadBits := by
  unfold Obligations.StatusReadBits
  intro s a ha
  refine ⟨fun k hk => ?_, fun i => ?_⟩
  · rw [memRead_of_slot ha]
    exact s.statusWord_getLsbD hk
  · exact stepOn_of_writesNothing (CycleInput.writesNothing_of_read rfl) s

/-! ### The two registers the host writes whole: IRQ_EN and TMO (R42 to R44) -/

/-- The sticky field of a word, shifted back to its place, is the word with the other bits 0 (R42). -/
theorem stickyField_shiftLeft (v : Word) : (stickyField v).setWidth 32 <<< 4 = v &&& 0x00001FF0#32 := by
  refine BitVec.eq_of_getLsbD_eq fun k hk => ?_
  interval_cases k <;> simp [stickyField]

/-- A live cycle that writes IRQ_EN is one with no bus access but for IRQ_EN (R43). -/
theorem stepOn_of_writes_irqEn {i : CycleInput} {s : State} (hv : s.cfg.Valid) (hr : i.live) (h : i.Writes 2#6) :
    ∃ u, stepOn i.noAccess s = .next u ∧ stepOn i s = .next { u with irqEn := stickyField i.busWdata } := by
  refine ⟨_, stepOn_noAccess hv hr, ?_⟩
  rw [stepOn_of_busAccess hv hr (busAccess_of_writes_irqEn h s), unitsCycle_of_writes h (by decide),
    unitsCycle_writeIrqEn]
  rfl

/-- A live cycle that writes TMO is one with no bus access but for TMO (R44). -/
theorem stepOn_of_writes_tmo {i : CycleInput} {s : State} (hv : s.cfg.Valid) (hr : i.live) (h : i.Writes 3#6) :
    ∃ u, stepOn i.noAccess s = .next u ∧ stepOn i s = .next { u with tmo := i.busWdata } := by
  refine ⟨_, stepOn_noAccess hv hr, ?_⟩
  rw [stepOn_of_busAccess hv hr (busAccess_of_writes_tmo h s), unitsCycle_of_writes h (by decide),
    unitsCycle_writeTmo]
  rfl

/-- Settles O29: the field of the register and its place in the word, and the write at the step. -/
theorem irqEnableReadsBack : Obligations.IrqEnableReadsBack := by
  unfold Obligations.IrqEnableReadsBack
  refine ⟨fun s a b v ha hb => ⟨?_, memWrite_irqEn ha s v, ?_⟩,
    fun s i hv hr => ⟨fun hen hwe hslot => stepOn_of_writes_irqEn hv hr ⟨hen, hwe, hslot⟩, fun hno => ?_⟩⟩
  · exact memRead_of_slot hb s
  · rw [memRead_of_slot hb]
    exact stickyField_shiftLeft v
  · obtain ⟨b, hb⟩ := busAccess_total i s
    refine ⟨_, stepOn_of_busAccess hv hr hb, ?_⟩
    simpa using busAccess_irqEn hb hno

/-- Past the trigger phase the Ranger's update reads no TMO register: R67 latched it. -/
theorem Ranger.tick_tmo_irrelevant {r : Ranger} (h : r.st ≠ .trigHigh) (p : Params) (x y : BitVec 32) (echo : Bool) :
    r.tick p x echo = r.tick p y echo := by
  have hrule : ∀ q : Ranger, q.st ≠ .trigHigh → q.stateRule p x echo = q.stateRule p y echo := by
    intro q hq
    unfold stateRule
    cases hst : q.st <;> simp_all
  unfold tick
  rw [hrule r h, hrule r.countDown h]

/-- Settles O30: the write at the step, and the state rules past the trigger phase. -/
theorem tmoReadsBackAndIsLatched : Obligations.TmoReadsBackAndIsLatched := by
  unfold Obligations.TmoReadsBackAndIsLatched
  intro s i hv hr
  refine ⟨fun hen hwe hslot => ?_, fun hno => ?_, fun hst e x y => ?_⟩
  · obtain ⟨u, hu, ht⟩ := stepOn_of_writes_tmo hv hr ⟨hen, hwe, hslot⟩
    exact ⟨_, u, ht, hu, rfl, rfl⟩
  · obtain ⟨b, hb⟩ := busAccess_total i s
    have htmo : (unitsCycle i s b).tmo = s.tmo := by simpa using busAccess_tmo hb hno
    exact ⟨_, stepOn_of_busAccess hv hr hb, htmo, htmo⟩
  · refine Ranger.tick_tmo_irrelevant (fun hhigh => ?_) s.cfg x y e
    simp [hhigh] at hst

/-! ### The fields of the read-only registers (R45 to R52) -/

/-- The low part of a concatenation keeps its bits, and the high part stands above them. -/
theorem toNat_append_eq_add {m n : Nat} (x : BitVec m) (y : BitVec n) :
    (x ++ y).toNat = y.toNat + 2 ^ n * x.toNat := by
  rw [BitVec.toNat_append, Nat.shiftLeft_eq, Nat.mul_comm, ← Nat.two_pow_add_eq_or_of_lt y.isLt, Nat.add_comm]

theorem State.volWord_toNat (s : State) : s.volWord.toNat =
    s.adc.raw.toNat + 2 ^ 16 * s.adc.vlevel.code.toNat + 2 ^ 18 * s.adc.pend.toNat := by
  rw [State.volWord, BitVec.toNat_setWidth_of_le (by decide)]
  simp only [toNat_append_eq_add, BitVec.toNat_ofBool]
  omega

theorem State.playWord_toNat (s : State) : s.playWord.toNat =
    s.play.note.toNat + 2 ^ 4 * s.play.oct.toNat := by
  rw [State.playWord, BitVec.toNat_setWidth_of_le (by decide), toNat_append_eq_add]

theorem State.octWord_toNat (s : State) : s.octWord.toNat =
    s.oct.sel.toNat + 2 ^ 2 * s.oct.btn1Q.toNat + 2 ^ 3 * s.oct.btn2Q.toNat := by
  rw [State.octWord, BitVec.toNat_setWidth_of_le (by decide)]
  simp only [toNat_append_eq_add, BitVec.toNat_ofBool]
  omega

theorem State.seqWord_toNat (s : State) : s.seqWord.toNat =
    s.seq.melIdx.toNat + 2 ^ 4 * s.seq.snapNote.toNat + 2 ^ 8 * s.seq.snapOct.toNat +
        2 ^ 10 * s.seqFiring.toNat + 2 ^ 11 * s.mv.act.toNat := by
  rw [State.seqWord, BitVec.toNat_setWidth_of_le (by decide)]
  simp only [toNat_append_eq_add, BitVec.toNat_ofBool]
  omega

theorem State.dacWord_toNat (s : State) : s.dacWord.toNat =
    s.dac.out.toNat + 2 ^ 16 * s.dac.we.toNat := by
  rw [State.dacWord, BitVec.toNat_setWidth_of_le (by decide), toNat_append_eq_add, BitVec.toNat_ofBool]

/-- Settles O31: each register's word is the concatenation of its fields. -/
theorem readOnlyRegisterFields : Obligations.ReadOnlyRegisterFields := by
  unfold Obligations.ReadOnlyRegisterFields
  intro s
  refine ⟨rfl, fun k hk => ?_, rfl, rfl, rfl, ?_, ?_, ?_, ?_, ?_, ?_⟩
  · unfold regRead
    split
    case h_14 => rfl
    all_goals omega
  · exact BitVec.toNat_setWidth_of_le (by decide)
  · exact s.volWord_toNat
  · exact s.playWord_toNat
  · exact s.octWord_toNat
  · exact s.seqWord_toNat
  · exact s.dacWord_toNat

/-! ### The step of a command (R39, R57, R111) -/

/-- Settles O13: the word that decodes is executed as the cycle's bus access, and the units follow. -/
theorem stepRunsDecodedCommand : Obligations.StepRunsDecodedCommand := by
  unfold Obligations.StepRunsDecodedCommand
  intro s t v i hv hr hcmd hdec ht
  refine step_live hv hr ?_
  rw [busAccess_of_cmdWord hcmd, cmdWrite_of_decode hdec, ht]

/-! ### The sticky bits: what the bus access sets and clears (R41) -/

/-- The bit of one condition in the mask of another, where b holds. -/
theorem Cond.maskIf_getLsbD (b : Bool) (c d : Cond) :
    (if b then d.mask else 0#9).getLsbD (c.pos - 4) = (b && decide (c = d)) := by
  cases b
  · simp
  · cases c <;> cases d <;> rfl

theorem Cond.mask_getLsbD (c d : Cond) : d.mask.getLsbD (c.pos - 4) = decide (c = d) :=
  maskIf_getLsbD true c d

theorem flag_of_sticky_eq {s t : State} (h : t.sticky = s.sticky) (c : Cond) : t.flag c = s.flag c := by
  rw [State.flag, State.flag, h]

/-- A bit that is raised is set, and the others are kept. -/
theorem flag_of_sticky_or_mask {s t : State} {d : Cond} (h : t.sticky = s.sticky ||| d.mask) (c : Cond) :
    t.flag c = true ↔ s.flag c = true ∨ c = d := by
  rw [State.flag, h, BitVec.getLsbD_or, Cond.mask_getLsbD]
  simp [State.flag]

/-- The W1C write clears the bits its word names (R41). -/
theorem State.clearStatus_flag (s : State) (v : Word) (c : Cond) :
    (s.clearStatus v).flag c = true ↔ s.flag c = true ∧ ¬ v.getLsbD c.pos = true := by
  have hpos : c.pos - 4 < 9 ∧ 4 + (c.pos - 4) = c.pos := by cases c <;> decide
  simp [State.flag, stickyField, hpos]

/-- The word of REARM is the one that decodes to it (R57, R58). -/
theorem decode_eq_rearm_iff (v : Word) : decode v = .ok .rearm ↔ v = 0x00000003#32 := by
  constructor
  · intro h
    have hfields : opField v = 3#4 ∧ upperField v = 0#28 := by
      unfold decode decodeBare decodeReserved at h
      by_cases hplay : opField v = 2#4
      · simp [hplay, decodePlay_eq_ok_iff] at h
      · simp only [hplay, if_false] at h
        repeat' split at h
        all_goals simp_all
    obtain ⟨hop, hupper⟩ := hfields
    have hop' := congrArg BitVec.toNat hop
    have hupper' := congrArg BitVec.toNat hupper
    simp only [opField_toNat, upperField_toNat, BitVec.toNat_ofNat] at hop' hupper'
    bv_omega
  · rintro rfl
    rfl

/-- A PLAY with a legal note loads no voice exactly when it is a no-op (R83). -/
theorem noteVoice_eq_none_iff {s : State} {note : NoteCode} (oct : OctCode) (durMs : BitVec 16) (hnote : note.toNat ≤ 8) :
    noteVoice s.cfg note oct s.adc.vlevel durMs = none ↔ PlayIsNoOp s note oct durMs := by
  constructor
  · intro hnone
    by_contra hno
    obtain ⟨hsil, hoct, hdiv, hreps⟩ : note ≠ 8#4 ∧ oct ≠ 0#2 ∧ s.adc.vlevel ≠ .mute ∧
        ∀ n : Fin 8, note.toNat = n.val → repsNat s.cfg n oct durMs ≠ 0 := by
      simpa [PlayIsNoOp, not_or] using hno
    have hscale : note.toNat < 8 := by bv_omega
    have hcode : note = BitVec.ofNat 4 (⟨note.toNat, hscale⟩ : Fin 8).val := by simp
    rw [hcode, noteVoice_of_sounds hoct hdiv (Nat.pos_of_ne_zero (hreps ⟨note.toNat, hscale⟩ rfl))] at hnone
    cases hnone
  · intro hno
    by_contra hsome
    obtain ⟨w, hw⟩ := Option.ne_none_iff_exists'.1 hsome
    obtain ⟨n, rfl, hoct, hdiv, hreps, -⟩ := sounds_of_noteVoice hw
    have hn := scaleCode_toNat n
    obtain hsil | hoct' | hdiv' | ⟨m, hm, hzero⟩ := hno
    · exact absurd n.isLt (by rw [← hn, hsil]; decide)
    · exact hoct hoct'
    · exact hdiv hdiv'
    · have hmn : n = m := Fin.ext (hn.symm.trans hm)
      subst hmn
      omega

/-- A decoded command sets the one bit it raises and clears none (R63, R81, R83, R100, R109). -/
theorem exec_sticky {i : CycleInput} {v : Word} {j : Instr} {s b : State} (hcmd : cmdWord i = some v)
    (hdec : decode v = .ok j) (hb : exec j s = .next b) :
    (commandRaises i s = none ∧ b.sticky = s.sticky) ∨
      ∃ d, commandRaises i s = some d ∧ b.sticky = s.sticky ||| d.mask := by
  cases j with
  | nop =>
    cases hb
    exact .inl ⟨by simp [commandRaises, hcmd, hdec], rfl⟩
  | reserved4to7 =>
    cases hb
    exact .inr ⟨.errCmd, by simp [commandRaises, hcmd, hdec], rfl⟩
  | reserved8toF =>
    cases hb
    exact .inr ⟨.errCmd, by simp [commandRaises, hcmd, hdec], rfl⟩
  | measure =>
    simp only [exec, execMeasure] at hb
    split at hb <;> cases hb <;> rename_i hst
    · exact .inr ⟨.errBusy, by simp_all [commandRaises], rfl⟩
    · exact .inl ⟨by simp_all [commandRaises], rfl⟩
  | rearm =>
    simp only [exec, execRearm] at hb
    split at hb <;> cases hb <;> rename_i hst
    · exact .inr ⟨.errLock, by simp_all [commandRaises], rfl⟩
    · exact .inl ⟨by simp_all [commandRaises], rfl⟩
  | play note oct durMs =>
    obtain ⟨hlegal, -⟩ := (decode_eq_play_iff_toNat ..).1 hdec
    obtain ⟨hnote, -⟩ := codes_of_decode_play hdec
    have hnoop := noteVoice_eq_none_iff (s := s) oct durMs hnote
    simp only [exec, execPlay, hlegal, Bool.true_eq_false, if_false] at hb
    simp only [commandRaises, hcmd, hdec]
    by_cases hfiring : s.seq.st = .firing
    · rw [if_pos hfiring] at hb
      cases hb
      exact .inr ⟨.errLock, if_pos hfiring, rfl⟩
    rw [if_neg hfiring] at hb ⊢
    by_cases hact : s.fv.act = true
    · rw [if_pos hact] at hb
      cases hb
      exact .inr ⟨.errBusy, if_pos hact, rfl⟩
    rw [if_neg hact] at hb ⊢
    cases hv : noteVoice s.cfg note oct s.adc.vlevel durMs with
    | none =>
      simp only [hv] at hb
      cases hb
      exact .inr ⟨.synDone, if_pos (hnoop.1 hv), rfl⟩
    | some w =>
      simp only [hv] at hb
      cases hb
      have hno : ¬ PlayIsNoOp s note oct durMs := fun h => by rw [hnoop.2 h] at hv; cases hv
      exact .inl ⟨if_neg hno, rfl⟩

/-- The sticky bits a CMD write leaves: it sets the one it raises, an illegal word ERR_CMD (R109), and clears none. -/
theorem busAccess_flag_of_cmd {i : CycleInput} {v : Word} {s b : State} (hcmd : cmdWord i = some v)
    (hb : busAccess i s = .next b) (c : Cond) :
    b.flag c = true ↔ commandRaises i s = some c ∨ s.flag c = true := by
  have hsticky : (commandRaises i s = none ∧ b.sticky = s.sticky) ∨
      ∃ d, commandRaises i s = some d ∧ b.sticky = s.sticky ||| d.mask := by
    rw [busAccess_of_cmdWord hcmd] at hb
    cases hdec : decode v with
    | ok j => exact exec_sticky hcmd hdec (cmdWrite_of_decode hdec s ▸ hb)
    | error e =>
      rw [cmdWrite, hdec] at hb
      cases hb
      exact .inr ⟨.errCmd, by simp only [commandRaises, hcmd, hdec], rfl⟩
  obtain ⟨hnone, h⟩ | ⟨d, hd, h⟩ := hsticky
  · simp [hnone, flag_of_sticky_eq h]
  · rw [hd, flag_of_sticky_or_mask h, or_comm, Option.some_inj, eq_comm]

/-- The sticky bits a cycle's bus access leaves: a command sets one, a STATUS write clears those it names. -/
theorem busAccess_flag {i : CycleInput} {s b : State} (hb : busAccess i s = .next b) (c : Cond) :
    b.flag c = true ↔ commandRaises i s = some c ∨
      (s.flag c = true ∧ ¬ (i.writesStatus = true ∧ i.busWdata.getLsbD c.pos = true)) := by
  rw [i.writesStatus_iff]
  have hkept (hcmd : cmdWord i = none) (hstatus : ¬ i.Writes 1#6) (hsticky : b.sticky = s.sticky) :
      b.flag c = true ↔ commandRaises i s = some c ∨
        (s.flag c = true ∧ ¬ (i.Writes 1#6 ∧ i.busWdata.getLsbD c.pos = true)) := by
    simp only [commandRaises, hcmd, hstatus, flag_of_sticky_eq hsticky, false_and, not_false_eq_true, and_true,
      reduceCtorEq, false_or]
  obtain ⟨v, hcmd⟩ | h1 | h2 | h3 | h0 := writes_cases i
  · have hstatus : ¬ i.Writes 1#6 := fun h => by simp [cmdWord_of_writes_ne h] at hcmd
    rw [busAccess_flag_of_cmd hcmd hb]
    simp only [hstatus, false_and, not_false_eq_true, and_true]
  · rw [busAccess_of_writes_status h1] at hb
    cases hb
    have hcmd := cmdWord_of_writes_ne h1 (by decide)
    rw [State.clearStatus_flag, and_iff_right h1]
    simp only [commandRaises, hcmd, reduceCtorEq, false_or]
  · rw [busAccess_of_writes_irqEn h2] at hb
    cases hb
    exact hkept (cmdWord_of_writes_ne h2 (by decide)) (fun h1 => absurd (CycleInput.writes_unique h1 h2) (by decide)) rfl
  · rw [busAccess_of_writes_tmo h3] at hb
    cases hb
    exact hkept (cmdWord_of_writes_ne h3 (by decide)) (fun h1 => absurd (CycleInput.writes_unique h1 h3) (by decide)) rfl
  · rw [busAccess_of_writesNothing h0] at hb
    cases hb
    exact hkept (cmdWord_of_writesNothing h0) (fun h1 => absurd (h0 _ h1) (by decide)) rfl

/-! ### The sticky bits: what the units set (R41) -/

/-- The rule of a unit, other than a command's, that sets condition c fires in this cycle. -/
def UnitSets (i : CycleInput) (s : State) : Cond → Prop
  | .rngDone => s.rng.st = .convert ∨ TimeoutCycle i s
  | .rngTmo => TimeoutCycle i s
  | .synDone => s.seq.st = .armed ∧ s.fv.act = true ∧ s.fv.wait = 0#16 ∧ s.fv.reps = 0#32
  | .seqStart => s.seq.st = .armed ∧ s.seq.idleCnt.toNat ≤ 1 ∧ i.rearms = false
  | .seqDone => s.seq.st = .firing ∧ s.mv.act = false ∧ s.seq.melIdx = 8#4
  | .volUpd => s.adc.pend = true
  | .errCmd | .errBusy | .errLock => False

theorem setInCycle_iff (i : CycleInput) (s : State) (c : Cond) :
    SetInCycle i s c ↔ commandRaises i s = some c ∨ UnitSets i s c := by
  cases c <;> rfl

theorem timesOut_iff_timeoutCycle (i : CycleInput) (s : State) : s.rng.timesOut i.echo = true ↔ TimeoutCycle i s := by
  simp only [Ranger.timesOut, Bool.and_eq_true, Ranger.timing_iff, decide_eq_true_eq]
  tauto

/-- While ARMED the cycle accepts a REARM exactly when the host writes one (R100). -/
theorem rearmAccepted_of_armed {s : State} (i : CycleInput) (h : s.seq.st = .armed) : rearmAccepted i s = i.rearms := by
  unfold rearmAccepted CycleInput.rearms
  cases hcmd : cmdWord i with
  | none => rfl
  | some v =>
    rw [Bool.eq_iff_iff, decide_eq_true_eq, Option.some_inj, ← decode_eq_rearm_iff]
    dsimp only
    split <;> simp_all

/-- The idle timer expires in the cycle that the rule of SEQ_START names (R101, R102). -/
theorem idleExpires_iff (i : CycleInput) (s : State) :
    s.idleExpires (rearmAccepted i s) = true ↔ s.seq.st = .armed ∧ s.seq.idleCnt.toNat ≤ 1 ∧ i.rearms = false := by
  simp only [State.idleExpires, Bool.and_eq_true, Bool.not_eq_true', decide_eq_true_eq, and_assoc]
  refine and_congr_right fun harmed => ?_
  rw [rearmAccepted_of_armed i harmed, and_comm]

theorem rangerCycle_flag (i : CycleInput) (s t : State) (c : Cond) :
    (rangerCycle i s t).flag c =
      (t.flag c || s.rng.finishes i.echo && decide (c = .rngDone) || s.rng.timesOut i.echo && decide (c = .rngTmo)) := by
  rw [State.flag, rangerCycle_sticky, BitVec.getLsbD_or, BitVec.getLsbD_or, Cond.maskIf_getLsbD, Cond.maskIf_getLsbD]
  rfl

theorem samplerCycle_flag (i : CycleInput) (s t : State) (c : Cond) :
    (samplerCycle i s t).flag c = (t.flag c || s.adc.pend && decide (c = .volUpd)) := by
  rw [State.flag, samplerCycle_sticky, BitVec.getLsbD_or, Cond.maskIf_getLsbD]
  rfl

theorem voicesCycle_flag (s t : State) (c : Cond) :
    (voicesCycle s t).flag c = (t.flag c || (s.fvSteps && s.fv.finishes) && decide (c = .synDone)) := by
  rw [State.flag, voicesCycle_sticky, BitVec.getLsbD_or, Cond.maskIf_getLsbD]
  rfl

/-- The sequencer's part of a cycle sets SEQ_START at melody entry, SEQ_DONE at melody exit, and clears no bit. -/
theorem sequencerCycle_flag_iff (r : Bool) (s t : State) (c : Cond) :
    (sequencerCycle r s t).flag c = true ↔
      t.flag c = true ∨ (c = .seqStart ∧ s.idleExpires r = true) ∨
        (c = .seqDone ∧ s.seq.st = .firing ∧ s.mv.act = false ∧ s.seq.melIdx.toNat = 8) := by
  obtain ⟨hst, hr, h⟩ | ⟨hexp, h⟩ | ⟨hst, -, hcnt, h⟩ | ⟨hst, hact, h⟩ | ⟨hst, hact, hidx, h⟩ | ⟨hst, hact, hidx, h⟩ |
    ⟨hst, hact, hidx, h⟩ := sequencerCycle_cases r s t <;> rw [h]
  · simp [State.idleExpires, hst, hr]
  · have hst : s.seq.st = .armed := by simp_all [State.idleExpires]
    rw [flag_of_sticky_or_mask (State.melodyEntry_sticky t)]
    simp [hexp, hst]
  · have hflag : t.countIdle.flag c = t.flag c := rfl
    simp [State.idleExpires, hst, hflag, hcnt.not_ge]
  · simp [State.idleExpires, hst, hact]
  · have hflag : (s.nextNote t).flag c = t.flag c := flag_of_sticky_eq (by simp [nextNote_eq]) c
    simp [State.idleExpires, hst, hflag, hidx.ne]
  · rw [flag_of_sticky_or_mask (State.melodyExit_sticky t)]
    simp [State.idleExpires, hst, hact, hidx]
  · simp [State.idleExpires, hst, hidx.ne']

/-- The units set the bits of their rules and clear none. -/
theorem unitsCycle_flag (i : CycleInput) (s t : State) (c : Cond) :
    (unitsCycle i s t).flag c = true ↔ t.flag c = true ∨ UnitSets i s c := by
  have hoct : (unitsCycle i s t).flag c = (sequencerCycle (rearmAccepted i s) s
      (voicesCycle s (samplerCycle i s (rangerCycle i s t)))).flag c := rfl
  have hidx : s.seq.melIdx.toNat = 8 ↔ s.seq.melIdx = 8#4 := BitVec.toNat_inj (y := 8#4)
  rw [hoct, sequencerCycle_flag_iff, voicesCycle_flag, samplerCycle_flag, rangerCycle_flag, idleExpires_iff, hidx]
  cases c <;> simp [UnitSets, Ranger.finishes, timesOut_iff_timeoutCycle, State.fvSteps, Voice.finishes]
  tauto

/-- Settles O19: the bus access sets and clears, and after it the units set. -/
theorem stickyBitsFollowSetAndClear : Obligations.StickyBitsFollowSetAndClear := by
  unfold Obligations.StickyBitsFollowSetAndClear
  intro s hv hr
  obtain ⟨b, hb⟩ := busAccess_total s.input s
  refine ⟨_, step_live hv hr hb, fun c => ?_⟩
  calc (unitsCycle s.input s b).endCycle.flag c = true
      ↔ b.flag c = true ∨ UnitSets s.input s c := unitsCycle_flag ..
    _ ↔ _ := by rw [busAccess_flag hb, setInCycle_iff, or_right_comm]

end Sys2Proof.Machine
end

/-! PROOFS. The encoding: the word of each instruction as a number, the words that decode to it, the agreement of decoder
and encoder, and what a write of an illegal word does. -/

section
namespace Sys2Proof

/-! ### The word of each instruction as a number (the field layout of R56) -/

/-- A field put above lower bits that end below it is added to them: the fields of a command word do not overlap. -/
theorem field_or_toNat {n : Nat} (x : BitVec n) {lo : Word} (k : Nat) (hfit : n + k ≤ 32) (hlo : lo.toNat < 2 ^ k) :
    (x.setWidth 32 <<< k ||| lo).toNat = 2 ^ k * x.toNat + lo.toNat := by
  have hx : x.toNat * 2 ^ k < 2 ^ 32 := calc
    x.toNat * 2 ^ k < 2 ^ n * 2 ^ k := Nat.mul_lt_mul_of_pos_right x.isLt (Nat.two_pow_pos k)
    _ = 2 ^ (n + k) := (Nat.pow_add ..).symm
    _ ≤ 2 ^ 32 := Nat.pow_le_pow_right Nat.two_pos hfit
  rw [BitVec.toNat_or, BitVec.toNat_shiftLeft, BitVec.toNat_setWidth_of_le (by omega), Nat.shiftLeft_eq,
    Nat.mod_eq_of_lt hx, Nat.mul_comm, Nat.two_pow_add_eq_or_of_lt hlo]

theorem encode_play_toNat (note : BitVec 4) (oct : BitVec 2) (durMs : BitVec 16) :
    (encode (.play note oct durMs)).toNat = 2 + 16 * note.toNat + 256 * oct.toNat + 65536 * durMs.toNat := by
  have hnote : (note.setWidth 32 <<< 4 ||| 0x2#32).toNat = 16 * note.toNat + 2 :=
    field_or_toNat note 4 (by decide) (by decide)
  have hoct : (oct.setWidth 32 <<< 8 ||| (note.setWidth 32 <<< 4 ||| 0x2#32)).toNat =
      256 * oct.toNat + (16 * note.toNat + 2) := by
    rw [field_or_toNat oct 8 (by decide) (by omega), hnote]
    rfl
  rw [encode, BitVec.or_assoc, BitVec.or_assoc, field_or_toNat durMs 16 (by decide) (by omega), hoct]
  omega

theorem encode_reserved4to7_toNat (opLow : BitVec 2) (other : BitVec 28) :
    (encode (.reserved4to7 opLow other)).toNat = 4 + opLow.toNat + 16 * other.toNat := by
  have hop : (0x4#32 ||| opLow.setWidth 32).toNat = 4 + opLow.toNat := by revert opLow; decide
  rw [encode, BitVec.or_assoc, field_or_toNat other 4 (by decide) (by omega), hop]
  omega

theorem encode_reserved8toF_toNat (opLow : BitVec 3) (other : BitVec 28) :
    (encode (.reserved8toF opLow other)).toNat = 8 + opLow.toNat + 16 * other.toNat := by
  have hop : (0x8#32 ||| opLow.setWidth 32).toNat = 8 + opLow.toNat := by revert opLow; decide
  rw [encode, BitVec.or_assoc, field_or_toNat other 4 (by decide) (by omega), hop]
  omega

/-! ### The words that decode to each instruction (R57, R58) -/

theorem decodeBare_eq_ok_iff (v : Word) (i j : Instr) : decodeBare v i = .ok j ↔ upperField v = 0#28 ∧ i = j := by
  by_cases h : upperField v = 0#28 <;> simp [decodeBare, h]

theorem decodeReserved_eq_iff (v : Word) (i : Instr) :
    decodeReserved v = i ↔
      ((opField v).toNat < 8 ∧ .reserved4to7 (v.extractLsb' 0 2) (upperField v) = i) ∨
      (8 ≤ (opField v).toNat ∧ .reserved8toF (v.extractLsb' 0 3) (upperField v) = i) := by
  rw [decodeReserved]
  split
  next h => simp [-opField_toNat, h, h.not_ge]
  next h => simp [-opField_toNat, h, not_lt.1 h]

/-- Everything the decoder accepts: a command without operands, a PLAY, or a word of a reserved row (R57). -/
theorem decode_eq_ok_iff (v : Word) (i : Instr) :
    decode v = .ok i ↔
      (opField v = 0#4 ∧ upperField v = 0#28 ∧ .nop = i) ∨ (opField v = 1#4 ∧ upperField v = 0#28 ∧ .measure = i) ∨
      (opField v = 2#4 ∧ decodePlay v = .ok i) ∨ (opField v = 3#4 ∧ upperField v = 0#28 ∧ .rearm = i) ∨
      (4 ≤ (opField v).toNat ∧ decodeReserved v = i) := by
  have hcases : opField v = 0#4 ∨ opField v = 1#4 ∨ opField v = 2#4 ∨ opField v = 3#4 ∨ 4 ≤ (opField v).toNat := by
    bv_omega
  unfold decode
  obtain h | h | h | h | h := hcases
  case inr.inr.inr.inr =>
    have hne : opField v ≠ 0#4 ∧ opField v ≠ 1#4 ∧ opField v ≠ 2#4 ∧ opField v ≠ 3#4 := by bv_omega
    simp [hne, -opField_toNat, h]
  all_goals simp [h, decodeBare_eq_ok_iff, -opField_toNat]

/-- A word without operands is its OP alone (R58). -/
theorem bareFields_iff (v : Word) (op : BitVec 4) : opField v = op ∧ upperField v = 0#28 ↔ v = op.setWidth 32 := by
  have hop := op.isLt
  simp only [← BitVec.toNat_inj, opField_toNat, upperField_toNat, BitVec.toNat_ofNat, BitVec.toNat_setWidth]
  omega

theorem decode_eq_nop_iff (v : Word) : decode v = .ok .nop ↔ v = 0x00000000#32 := by
  have h := bareFields_iff v 0#4
  simpa [decode_eq_ok_iff, decodePlay_eq_ok_iff, decodeReserved_eq_iff] using h

theorem decode_eq_measure_iff (v : Word) : decode v = .ok .measure ↔ v = 0x00000001#32 := by
  have h := bareFields_iff v 1#4
  simpa [decode_eq_ok_iff, decodePlay_eq_ok_iff, decodeReserved_eq_iff] using h

theorem decode_eq_reserved4to7_iff_toNat (v : Word) (opLow : BitVec 2) (other : BitVec 28) :
    decode v = .ok (.reserved4to7 opLow other) ↔ v.toNat = 4 + opLow.toNat + 16 * other.toNat := by
  have hlow := opLow.isLt
  have hfields : decode v = .ok (.reserved4to7 opLow other) ↔
      4 ≤ v.toNat % 16 ∧ v.toNat % 16 < 8 ∧ v.toNat % 4 = opLow.toNat ∧ v.toNat / 16 = other.toNat := by
    simp [decode_eq_ok_iff, decodePlay_eq_ok_iff, decodeReserved_eq_iff, ← BitVec.toNat_inj]
  rw [hfields]
  omega

theorem decode_eq_reserved8toF_iff_toNat (v : Word) (opLow : BitVec 3) (other : BitVec 28) :
    decode v = .ok (.reserved8toF opLow other) ↔ v.toNat = 8 + opLow.toNat + 16 * other.toNat := by
  have hlow := opLow.isLt
  have hfields : decode v = .ok (.reserved8toF opLow other) ↔
      4 ≤ v.toNat % 16 ∧ 8 ≤ v.toNat % 16 ∧ v.toNat % 8 = opLow.toNat ∧ v.toNat / 16 = other.toNat := by
    simp [decode_eq_ok_iff, decodePlay_eq_ok_iff, decodeReserved_eq_iff, ← BitVec.toNat_inj]
  rw [hfields]
  omega

/-- Decoder and encoder agree (R57 to R60): a word decodes to an instruction exactly when the instruction is well formed
and the word is its encoding. -/
theorem decode_eq_ok_iff_encode (v : Word) (i : Instr) : decode v = .ok i ↔ i.wellFormed = true ∧ v = encode i := by
  cases i with
  | nop => rw [decode_eq_nop_iff]; simp [Instr.wellFormed, encode]
  | measure => rw [decode_eq_measure_iff]; simp [Instr.wellFormed, encode]
  | play note oct durMs =>
    rw [decode_eq_play_iff_toNat, ← encode_play_toNat, BitVec.toNat_inj]
    rfl
  | rearm => rw [Machine.decode_eq_rearm_iff]; simp [Instr.wellFormed, encode]
  | reserved4to7 opLow other =>
    rw [decode_eq_reserved4to7_iff_toNat, ← encode_reserved4to7_toNat, BitVec.toNat_inj]
    simp [Instr.wellFormed]
  | reserved8toF opLow other =>
    rw [decode_eq_reserved8toF_iff_toNat, ← encode_reserved8toF_toNat, BitVec.toNat_inj]
    simp [Instr.wellFormed]

/-- Settles O1: the encoding of a well-formed instruction is a word that decodes to it. -/
theorem decodeOfEncodeGivesInstruction : Obligations.DecodeOfEncodeGivesInstruction := by
  unfold Obligations.DecodeOfEncodeGivesInstruction
  exact fun i hwf => (decode_eq_ok_iff_encode (encode i) i).2 ⟨hwf, rfl⟩

/-- Settles O2: the words that decode to an instruction are its encoding. -/
theorem encodeOfDecodeGivesWord : Obligations.EncodeOfDecodeGivesWord := by
  unfold Obligations.EncodeOfDecodeGivesWord
  intro v i hdec
  obtain ⟨hwf, hv⟩ := (decode_eq_ok_iff_encode v i).1 hdec
  exact ⟨hv.symm, hwf⟩

end Sys2Proof

namespace Sys2Proof.Machine

/-! ### The words R58 calls illegal -/

theorem not_illegalWord_of_decode_play {v : Word} {note : NoteCode} {oct : OctCode} {durMs : BitVec 16}
    (hdec : decode v = .ok (.play note oct durMs)) : ¬ IllegalWord v := by
  obtain ⟨hnote, hoct⟩ := codes_of_decode_play hdec
  obtain ⟨-, hv⟩ := (decode_eq_play_iff_toNat ..).1 hdec
  have hn := note.isLt
  have ho := oct.isLt
  omega

/-- An illegal word is rejected by the decoder or is a word of a reserved row, and both raise ERR_CMD (R58, R109). -/
theorem cmdWrite_of_illegalWord {v : Word} (hill : IllegalWord v) (s : State) :
    cmdWrite s v = .next (illegalWord s) := by
  cases hdec : decode v with
  | error e => rw [cmdWrite, hdec]
  | ok i =>
    rw [cmdWrite_of_decode hdec]
    cases i with
    | nop => rw [(decode_eq_nop_iff v).1 hdec] at hill; exact absurd hill (by decide)
    | measure => rw [(decode_eq_measure_iff v).1 hdec] at hill; exact absurd hill (by decide)
    | play note oct durMs => exact absurd hill (not_illegalWord_of_decode_play hdec)
    | rearm => rw [(decode_eq_rearm_iff v).1 hdec] at hill; exact absurd hill (by decide)
    | reserved4to7 opLow other => rfl
    | reserved8toF opLow other => rfl

/-- A word that R58 does not call illegal is one of the four commands, PLAY with the operands of R59. -/
theorem decode_of_not_illegalWord {v : Word} (hlegal : ¬ IllegalWord v) :
    decode v = .ok .nop ∨ decode v = .ok .measure ∨ decode v = .ok .rearm ∨
      decode v = .ok (.play (noteField v) (octField v) (durField v)) := by
  have hcases : v = 0x00000000#32 ∨ v = 0x00000001#32 ∨ v = 0x00000003#32 ∨
      (v.toNat % 16 = 2 ∧ v.toNat / 1024 % 64 = 0 ∧ v.toNat / 16 % 16 ≤ 8 ∧ v.toNat / 256 % 4 ≠ 3) := by
    simp only [← BitVec.toNat_inj, BitVec.toNat_ofNat]
    omega
  obtain h | h | h | ⟨hop, hres, hnote, hoct⟩ := hcases
  · exact .inl ((decode_eq_nop_iff v).2 h)
  · exact .inr (.inl ((decode_eq_measure_iff v).2 h))
  · exact .inr (.inr (.inl ((decode_eq_rearm_iff v).2 h)))
  · refine .inr (.inr (.inr ((decode_eq_play_iff_toNat ..).2 ⟨(playLegal_iff ..).2 ⟨?_, ?_⟩, ?_⟩)))
    · simpa [noteCodeOk] using hnote
    · simpa [octaveCodeOk] using hoct
    · rw [noteField_toNat, octField_toNat, durField_toNat]
      omega

/-- Settles O3: a write of an illegal word raises ERR_CMD alone, and the decoder accepts the other words as commands. -/
theorem illegalWordRaisesErrCmdOnly : Obligations.IllegalWordRaisesErrCmdOnly := by
  unfold Obligations.IllegalWordRaisesErrCmdOnly
  intro s v
  exact ⟨fun hill => cmdWrite_of_illegalWord hill s, decode_of_not_illegalWord⟩

end Sys2Proof.Machine
end

/-! PROOFS. The Ranger over one cycle and over runs: MEASURE, each state's rule, the trigger phase, the wait and the count
up to a timeout or a completed pulse, the fixed-point distance, and the statements on them. -/

section
namespace Sys2Proof.Machine

/-! ### The fixed-point distance (R73 to R76) -/

theorem durationQ16_mono (p : Params) {m n : Nat} (h : m ≤ n) : durationQ16 p m ≤ durationQ16 p n := by
  have hscaled : (m : Int) * p.tickScale.toNat ≤ n * p.tickScale.toNat := by exact_mod_cast Nat.mul_le_mul_right _ h
  unfold durationQ16
  omega

theorem distanceQ16_mono (p : Params) {m n : Nat} (h : m ≤ n) : distanceQ16 p m ≤ distanceQ16 p n :=
  Nat.div_le_div_right (Nat.mul_le_mul_right _ (durationQ16_mono p h))

theorem slopeCorrected_mono {d e : Nat} (h : d ≤ e) : slopeCorrected d ≤ slopeCorrected e :=
  Nat.add_le_add h (Nat.div_le_div_right h)

theorem sat32_mono {v w : Nat} (h : v ≤ w) : (sat32 v).toNat ≤ (sat32 w).toNat := by
  rw [sat32_toNat, sat32_toNat]
  exact min_le_min_right _ h

/-- Dist of R76 as a number. -/
theorem distOf_toNat (p : Params) (n : BitVec 32) :
    (distOf p n).toNat = min (distanceQ16 p n.toNat + distanceQ16 p n.toNat / 10) (2 ^ 32 - 1) :=
  sat32_toNat _

/-- Settles O39: each stage is the integer formula, and each is monotone. -/
theorem distanceIsMonotone : Obligations.DistanceIsMonotone := by
  unfold Obligations.DistanceIsMonotone
  intro p m n
  refine ⟨fun dur d hdur hd => ?_, fun h => sat32_mono (slopeCorrected_mono (distanceQ16_mono p h))⟩
  have hduration : durationQ16 p n.toNat = dur := by rw [durationQ16, ← hdur, Int.toNat_natCast]
  rw [distOf_toNat, distanceQ16, hduration, ← hd]

/-! ### MEASURE (R63) -/

/-- SETTLE_CYC in the numbers of R9. -/
theorem settleCyc_eq (p : Params) : p.settleCyc = (2 * p.fClkHz + 999999) / 1000000 := by
  unfold Params.settleCyc ceilDiv; omega

/-- PULSE_CYC in the numbers of R9. -/
theorem pulseCyc_eq (p : Params) : p.pulseCyc = (10 * p.fClkHz + 999999) / 1000000 := by
  unfold Params.pulseCyc ceilDiv; omega

theorem exec_measure_of_idle {s : State} (h : s.rng.st = .idle) :
    exec .measure s = .next { s with rng := s.rng.start s.cfg } :=
  if_neg (not_not.2 h)

theorem exec_measure_of_busy {s : State} (h : s.rng.st ≠ .idle) : exec .measure s = .next (s.raise .errBusy) :=
  if_pos h

/-- Settles O7: the two answers of the command, and SETTLE_CYC in the 16 bits of RTIM. -/
theorem measureStartsTriggerOrIsBusy : Obligations.MeasureStartsTriggerOrIsBusy := by
  unfold Obligations.MeasureStartsTriggerOrIsBusy
  refine fun s hv => ⟨fun hidle => ?_, exec_measure_of_busy⟩
  obtain ⟨-, hsettle, -⟩ := triggerLengths hv
  exact ⟨_, exec_measure_of_idle hidle, rfl, rfl, hsettle.trans (settleCyc_eq _), rfl, rfl, rfl, rfl, rfl⟩

/-- A MEASURE that the idle Ranger sees in a cycle's bus access starts the trigger phase. -/
theorem busAccess_rng_of_measure {i : CycleInput} {s b : State} (hb : busAccess i s = .next b)
    (hcmd : cmdWord i = some 0x00000001#32) (hidle : s.rng.st = .idle) : b.rng = s.rng.start s.cfg := by
  have hdec : decode 0x00000001#32 = .ok .measure := (decode_eq_measure_iff _).2 rfl
  rw [busAccess_of_cmdWord hcmd, cmdWrite_of_decode hdec, exec_measure_of_idle hidle] at hb
  cases hb
  rfl

/-- No other bus access changes the Ranger. -/
theorem busAccess_rng_of_not_measure {i : CycleInput} {s b : State} (hb : busAccess i s = .next b)
    (hcmd : cmdWord i ≠ some 0x00000001#32) : b.rng = s.rng := by
  obtain h | ⟨v, j, hv, hdec, h⟩ | ⟨v, e, -, -, h⟩ | ⟨-, v, h | h | h⟩ := busAccess_cases i s
  case inr.inl =>
    rw [h] at hb
    obtain h | ⟨c, -, h⟩ | ⟨rfl, -, -⟩ | ⟨_, _, _, -, -, -, -, ⟨-, h⟩ | ⟨_, -, h⟩⟩ | ⟨-, -, h⟩ := exec_cases j s
    case inr.inr.inl => exact absurd (hv.trans (congrArg some ((decode_eq_measure_iff v).1 hdec))) hcmd
    all_goals
      rw [h] at hb
      cases hb
      rfl
  all_goals
    rw [h] at hb
    cases hb
    rfl

/-! ### The Ranger's update in each state (R65 to R72) -/

/-- The timeout counter n cycles later, where it runs (R72). -/
def Ranger.elapse (n : Nat) (r : Ranger) : Ranger :=
  { r with tmoLeft := if r.tmoEn then r.tmoLeft - BitVec.ofNat 32 n else r.tmoLeft }

@[simp] theorem Ranger.elapse_st (n : Nat) (r : Ranger) : (r.elapse n).st = r.st := rfl
@[simp] theorem Ranger.elapse_rcnt (n : Nat) (r : Ranger) : (r.elapse n).rcnt = r.rcnt := rfl
@[simp] theorem Ranger.elapse_tmoEn (n : Nat) (r : Ranger) : (r.elapse n).tmoEn = r.tmoEn := rfl
@[simp] theorem Ranger.elapse_dist (n : Nat) (r : Ranger) : (r.elapse n).dist = r.dist := rfl
@[simp] theorem Ranger.elapse_pwcnt (n : Nat) (r : Ranger) : (r.elapse n).pwcnt = r.pwcnt := rfl

theorem Ranger.elapse_of_disabled {r : Ranger} (h : r.tmoEn = false) (n : Nat) : r.elapse n = r := by
  cases r
  cases h
  rfl

theorem Ranger.elapse_one_of_enabled {r : Ranger} (h : r.tmoEn = true) : r.elapse 1 = r.countDown := by
  simp [elapse, countDown, h]

@[simp] theorem Ranger.elapse_zero (r : Ranger) : r.elapse 0 = r := by
  simp [elapse]

theorem Ranger.elapse_elapse (m n : Nat) (r : Ranger) : (r.elapse m).elapse n = r.elapse (m + n) := by
  cases h : r.tmoEn
  · simp only [elapse_of_disabled h]
  · have hleft : r.tmoLeft - BitVec.ofNat 32 m - BitVec.ofNat 32 n = r.tmoLeft - BitVec.ofNat 32 (m + n) := by
      rw [BitVec.ofNat_add, sub_sub]
    simp only [elapse, h, if_true, hleft]

theorem Ranger.elapse_tmoLeft_toNat {r : Ranger} {n : Nat} (hen : r.tmoEn = true) (h : n ≤ r.tmoLeft.toNat) :
    (r.elapse n).tmoLeft.toNat = r.tmoLeft.toNat - n := by
  have hlt := r.tmoLeft.isLt
  have hn : (BitVec.ofNat 32 n).toNat = n := Nat.mod_eq_of_lt (h.trans_lt hlt)
  rw [elapse, if_pos hen, BitVec.toNat_sub_of_le (by rw [BitVec.le_def, hn]; exact h), hn]

/-- The Ranger waits for the echo or counts its pulse: the states of R68 to R70, in which a timeout can run. -/
def Ranger.Measuring (r : Ranger) : Prop := r.st = .waitStale ∨ r.st = .waitRise ∨ r.st = .count

theorem Ranger.Measuring.ne_idle {r : Ranger} (h : r.Measuring) : r.st ≠ .idle := by
  obtain h | h | h := h <;> simp [h]

/-- The state rules R68 to R70 of a cycle that ends no pulse. -/
def Ranger.advance (echo : Bool) (r : Ranger) : Ranger :=
  match r.st with
  | .waitStale => { r with st := if echo then .waitStale else .waitRise }
  | .waitRise => { r with st := if echo then .count else .waitRise, rcnt := if echo then 1#32 else r.rcnt }
  | .count => { r with rcnt := sat32 (r.rcnt.toNat + 1) }
  | .idle | .trigLow | .trigHigh | .convert => r

@[simp] theorem Ranger.advance_tmoEn (e : Bool) (r : Ranger) : (r.advance e).tmoEn = r.tmoEn := by
  unfold advance; split <;> rfl
@[simp] theorem Ranger.advance_tmoLeft (e : Bool) (r : Ranger) : (r.advance e).tmoLeft = r.tmoLeft := by
  unfold advance; split <;> rfl
@[simp] theorem Ranger.advance_dist (e : Bool) (r : Ranger) : (r.advance e).dist = r.dist := by
  unfold advance; split <;> rfl
@[simp] theorem Ranger.advance_pwcnt (e : Bool) (r : Ranger) : (r.advance e).pwcnt = r.pwcnt := by
  unfold advance; split <;> rfl

theorem Ranger.advance_elapse (e : Bool) (n : Nat) (r : Ranger) : (r.elapse n).advance e = (r.advance e).elapse n := by
  cases hst : r.st <;> simp only [advance, elapse, hst]

theorem Ranger.Measuring.advance {r : Ranger} (h : r.Measuring) (e : Bool) : (r.advance e).Measuring := by
  obtain h | h | h := h <;> cases e <;> simp [Measuring, Ranger.advance, h]

theorem Ranger.stateRule_eq_advance {r : Ranger} (h : r.Measuring) {echo : Bool} (hecho : r.st = .count → echo = true)
    (p : Params) (tmo : BitVec 32) : r.stateRule p tmo echo = r.advance echo := by
  obtain ⟨st, rtim, rcnt, en, left, dist, pwcnt⟩ := r
  obtain rfl | rfl | rfl := h
  · cases echo <;> rfl
  · cases echo <;> rfl
  · cases hecho rfl; rfl

/-- A cycle of the wait or of the count that neither times out nor ends the pulse (R68 to R70, R72's else branch). -/
theorem Ranger.tick_of_measuring {r : Ranger} (h : r.Measuring) {echo : Bool} (hecho : r.st = .count → echo = true)
    (hout : r.timesOut echo = false) (p : Params) (tmo : BitVec 32) :
    r.tick p tmo echo = (r.advance echo).elapse 1 := by
  cases hen : r.tmoEn
  · rw [tick_of_not_timing p tmo (timing_of_disabled hen), stateRule_eq_advance h hecho,
      elapse_of_disabled (by simpa using hen)]
  · have htiming : r.timing echo = true := by
      refine (timing_iff echo r).2 ⟨hen, ?_⟩
      obtain h | h | h := h
      · exact .inl h
      · exact .inr (.inl h)
      · exact .inr (.inr ⟨h, hecho h⟩)
    rw [tick, if_neg (by simp [hout]), if_pos htiming, ← elapse_one_of_enabled hen,
      stateRule_eq_advance (show (r.elapse 1).Measuring from h) hecho, advance_elapse]

theorem Ranger.tick_of_timesOut {r : Ranger} {echo : Bool} (h : r.timesOut echo = true) (p : Params)
    (tmo : BitVec 32) : r.tick p tmo echo = r.afterTimeout :=
  if_pos h

theorem Ranger.timing_of_not_measuring {r : Ranger} (h : ¬ r.Measuring) (echo : Bool) : r.timing echo = false := by
  refine Bool.eq_false_iff.2 fun ht => h ?_
  obtain ⟨-, h | h | ⟨h, -⟩⟩ := (timing_iff echo r).1 ht
  · exact .inl h
  · exact .inr (.inl h)
  · exact .inr (.inr h)

/-- Outside the wait and the count no timeout rule applies (R72). -/
theorem Ranger.tick_of_not_measuring {r : Ranger} (h : ¬ r.Measuring) (p : Params) (tmo : BitVec 32) (echo : Bool) :
    r.tick p tmo echo = r.stateRule p tmo echo :=
  tick_of_not_timing p tmo (timing_of_not_measuring h echo)

/-- R65. -/
theorem Ranger.tick_trigLow {r : Ranger} (h : r.st = .trigLow) (p : Params) (tmo : BitVec 32) (echo : Bool) :
    r.tick p tmo echo = if r.rtim = 1#16 then { r with st := .trigHigh, rtim := BitVec.ofNat 16 p.pulseCyc }
      else { r with rtim := r.rtim - 1#16 } := by
  rw [tick_of_not_measuring (by simp [Measuring, h]), stateRule, h]

/-- R66, R67. -/
theorem Ranger.tick_trigHigh {r : Ranger} (h : r.st = .trigHigh) (p : Params) (tmo : BitVec 32) (echo : Bool) :
    r.tick p tmo echo =
      if r.rtim = 1#16 then { r with st := .waitStale, rtim := 0#16, tmoEn := decide (tmo ≠ 0#32), tmoLeft := tmo }
      else { r with rtim := r.rtim - 1#16 } := by
  rw [tick_of_not_measuring (by simp [Measuring, h]), stateRule, h]

theorem Ranger.timesOut_of_count_low {r : Ranger} (h : r.st = .count) : r.timesOut false = false := by
  simp [timesOut, timing, h]

/-- The low echo that ends a pulse, in the last cycle of the timeout too (R70, R72). -/
theorem Ranger.tick_count_low {r : Ranger} (h : r.st = .count) (p : Params) (tmo : BitVec 32) :
    r.tick p tmo false = { r with st := .convert } := by
  have htiming : r.timing false = false := by simp [timing, h]
  rw [tick_of_not_timing p tmo htiming, stateRule, h]
  rfl

/-- R71. -/
theorem Ranger.tick_convert {r : Ranger} (h : r.st = .convert) (p : Params) (tmo : BitVec 32) (echo : Bool) :
    r.tick p tmo echo = { r with st := .idle, tmoEn := false, dist := distOf p r.rcnt, pwcnt := r.rcnt } := by
  rw [tick_of_not_measuring (by simp [Measuring, h]), stateRule, h]

/-- Only a timeout and CONVERT write DIST and PWCNT (R20, R21). -/
theorem Ranger.tick_dist_pwcnt {r : Ranger} {echo : Bool} (hst : r.st ≠ .convert) (hout : r.timesOut echo = false)
    (p : Params) (tmo : BitVec 32) :
    (r.tick p tmo echo).dist = r.dist ∧ (r.tick p tmo echo).pwcnt = r.pwcnt := by
  have hrule : ∀ q : Ranger, q.st ≠ .convert →
      (q.stateRule p tmo echo).dist = q.dist ∧ (q.stateRule p tmo echo).pwcnt = q.pwcnt := by
    intro q hq
    unfold stateRule
    cases h : q.st
    case convert => exact absurd h hq
    case idle => exact ⟨rfl, rfl⟩
    all_goals dsimp only; split <;> exact ⟨rfl, rfl⟩
  obtain ⟨h, -⟩ | ⟨-, -, h⟩ | ⟨-, -, h⟩ := tick_cases p tmo echo r
  · rw [hout] at h; cases h
  · rw [h]; exact hrule r.countDown hst
  · rw [h]; exact hrule r hst

/-! ### The Ranger over one cycle -/

/-- The Ranger after a cycle without reset: an idle one as the bus access leaves it, a busy one after its own update. -/
theorem step_rng {s : State} (hv : s.cfg.Valid) (hr : s.input.rst = false) :
    ∃ b t, busAccess s.input s = .next b ∧ step s = .next t ∧
      (s.rng.st = .idle → t.rng = b.rng) ∧ (s.rng.st ≠ .idle → t.rng = s.rng.tick s.cfg s.tmo s.input.echo) := by
  obtain ⟨b, hb⟩ := busAccess_total s.input s
  refine ⟨b, _, hb, step_live hv hr hb, fun h => ?_, fun h => ?_⟩ <;> rw [State.endCycle_rng, unitsCycle_rng]
  · exact if_pos h
  · exact if_neg h

/-- Settles O34: the rule of TRIG_HIGH in its last cycle. -/
theorem timeoutIsLatchedAfterTrigger : Obligations.TimeoutIsLatchedAfterTrigger := by
  unfold Obligations.TimeoutIsLatchedAfterTrigger
  intro s hv hr hst hrtim
  obtain ⟨b, t, -, ht, -, hrng⟩ := step_rng hv hr
  exact ⟨t, ht, by rw [hrng (by simp [hst]), Ranger.tick_trigHigh hst, if_pos hrtim]⟩

theorem TimeoutCycle.measuring {i : CycleInput} {s : State} (h : TimeoutCycle i s) : s.rng.Measuring := by
  obtain ⟨-, -, h | h | ⟨h, -⟩⟩ := h
  · exact .inl h
  · exact .inr (.inl h)
  · exact .inr (.inr h)

theorem timesOut_of_not_timeoutCycle {i : CycleInput} {s : State} (h : ¬ TimeoutCycle i s) :
    s.rng.timesOut i.echo = false :=
  Bool.eq_false_iff.2 fun ht => h ((timesOut_iff_timeoutCycle i s).1 ht)

/-- Settles O37: the Ranger's update state by state. -/
theorem completionWinsOverTimeout : Obligations.CompletionWinsOverTimeout := by
  unfold Obligations.CompletionWinsOverTimeout
  intro s hv hr
  obtain ⟨b, t, hb, ht, hidle, hbusy⟩ := step_rng hv hr
  have hstep (hm : s.rng.Measuring) (hecho : s.rng.st = .count → s.input.echo = true)
      (hout : ¬ TimeoutCycle s.input s) : t.rng = (s.rng.advance s.input.echo).elapse 1 := by
    rw [hbusy hm.ne_idle, Ranger.tick_of_measuring hm hecho (timesOut_of_not_timeoutCycle hout)]
  refine ⟨t, ht, fun hst he => ?_, fun hout => ?_, fun hst => ?_, fun hst hout => ?_, fun hst hcmd => ?_,
    fun hst hcmd => ?_, fun hst => ?_, fun hst => ?_, fun hout => ⟨fun hst => ?_, fun hst => ?_, fun hst he => ?_⟩⟩
  · rw [hbusy (by simp [hst]), he, Ranger.tick_count_low hst]
  · rw [hbusy hout.measuring.ne_idle, Ranger.tick_of_timesOut ((timesOut_iff_timeoutCycle _ _).2 hout)]
    rfl
  · rw [hbusy (by simp [hst]), Ranger.tick_convert hst]
  · by_cases hi : s.rng.st = .idle
    · rw [hidle hi]
      obtain h | h := busAccess_rng_cases hb <;> rw [h] <;> exact ⟨rfl, rfl⟩
    · rw [hbusy hi]
      exact Ranger.tick_dist_pwcnt hst (timesOut_of_not_timeoutCycle hout) ..
  · rw [hidle hst, busAccess_rng_of_not_measure hb hcmd]
  · rw [hidle hst, busAccess_rng_of_measure hb hcmd hst, ← settleCyc_eq]
    rfl
  · rw [hbusy (by simp [hst]), Ranger.tick_trigLow hst, pulseCyc_eq]
  · rw [hbusy (by simp [hst]), Ranger.tick_trigHigh hst]
  · rw [hstep (.inl hst) (by simp [hst]) hout]
    simp only [Ranger.advance, hst, Ranger.elapse]
  · rw [hstep (.inr (.inl hst)) (by simp [hst]) hout]
    simp only [Ranger.advance, hst, Ranger.elapse]
  · rw [hstep (.inr (.inr hst)) (fun _ => he) hout]
    simp only [Ranger.advance, hst, Ranger.elapse, sat32]


/-! ### A cycle of a running measurement -/

theorem commandRaises_ne_rngTmo (i : CycleInput) (s : State) : commandRaises i s ≠ some .rngTmo := by
  unfold commandRaises
  repeat' split
  all_goals simp

/-- The Ranger and its two sticky bits after a cycle of a running measurement. -/
theorem stepOn_busy {i : CycleInput} {s : State} (hv : s.cfg.Valid) (hr : i.live) (hbusy : s.rng.st ≠ .idle) :
    ∃ t, stepOn i s = .next t ∧ t.cfg = s.cfg ∧ t.rng = s.rng.tick s.cfg s.tmo i.echo ∧
      (∀ c, UnitSets i s c → t.flag c = true) ∧
      (t.flag .rngTmo = true → s.flag .rngTmo = true ∨ TimeoutCycle i s) := by
  obtain ⟨b, hb⟩ := busAccess_total i s
  obtain ⟨hcfg, -⟩ := busAccess_frame hb
  have hflag : ∀ c, (unitsCycle i s b).flag c = true ↔ b.flag c = true ∨ UnitSets i s c := unitsCycle_flag i s b
  refine ⟨_, stepOn_of_busAccess hv hr hb, ?_, ?_, fun c hc => (hflag c).2 (.inr hc), fun h => ?_⟩
  · simpa using hcfg
  · simpa using fun h => absurd h hbusy
  · refine ((hflag .rngTmo).1 h).imp (fun hbus => ?_) id
    obtain hcmd | ⟨hs, -⟩ := (busAccess_flag hb .rngTmo).1 hbus
    · exact absurd hcmd (commandRaises_ne_rngTmo i s)
    · exact hs

/-- From s to t the parameters are kept, the Ranger comes to r and RNG_TMO is not raised. -/
structure RangerMoves (s t : State) (r : Ranger) : Prop where
  cfg_eq : t.cfg = s.cfg
  rng_eq : t.rng = r
  rngTmo_of : t.flag .rngTmo = true → s.flag .rngTmo = true

theorem RangerMoves.trans {s t u : State} {q r : Ranger} (h : RangerMoves s t q) (h' : RangerMoves t u r) :
    RangerMoves s u r :=
  ⟨h'.cfg_eq.trans h.cfg_eq, h'.rng_eq, fun hu => h.rngTmo_of (h'.rngTmo_of hu)⟩

/-- A cycle of a measurement without a timeout; CONVERT sets RNG_DONE (R71). -/
theorem stepOn_of_not_timesOut {i : CycleInput} {s : State} (hv : s.cfg.Valid) (hr : i.live)
    (hbusy : s.rng.st ≠ .idle) (hout : s.rng.timesOut i.echo = false) :
    ∃ t, stepOn i s = .next t ∧ RangerMoves s t (s.rng.tick s.cfg s.tmo i.echo) ∧
      (s.rng.st = .convert → t.flag .rngDone = true) := by
  obtain ⟨t, ht, hcfg, hrng, hset, htmo⟩ := stepOn_busy hv hr hbusy
  have hno : ¬ TimeoutCycle i s := fun h => by simp [(timesOut_iff_timeoutCycle i s).2 h] at hout
  exact ⟨t, ht, ⟨hcfg, hrng, fun h => (htmo h).resolve_right hno⟩, fun hst => hset .rngDone (.inl hst)⟩

/-- The cycle in which a measurement times out (R72). -/
theorem stepOn_of_timeoutCycle {i : CycleInput} {s : State} (hv : s.cfg.Valid) (hr : i.live)
    (hout : TimeoutCycle i s) :
    ∃ t, stepOn i s = .next t ∧ t.rng = s.rng.afterTimeout ∧ t.flag .rngTmo = true ∧ t.flag .rngDone = true := by
  obtain ⟨t, ht, -, hrng, hset, -⟩ := stepOn_busy hv hr hout.measuring.ne_idle
  refine ⟨t, ht, ?_, hset .rngTmo hout, hset .rngDone (.inr hout)⟩
  rw [hrng, Ranger.tick_of_timesOut ((timesOut_iff_timeoutCycle i s).2 hout)]

/-! ### The trigger phase (R65, R66) -/

/-- The Ranger n cycles after the start of a measurement, up to the end of the trigger pulse. -/
def Ranger.AtTriggerCycle (p : Params) (n : Nat) (r : Ranger) : Prop :=
  (n < p.settleCyc → r.st = .trigLow ∧ r.rtim.toNat + n = p.settleCyc) ∧
  (p.settleCyc ≤ n → n < p.settleCyc + p.pulseCyc → r.st = .trigHigh ∧ r.rtim.toNat + n = p.settleCyc + p.pulseCyc) ∧
  (p.settleCyc + p.pulseCyc ≤ n → r.st = .waitStale)

theorem Ranger.AtTriggerCycle.ne_idle {p : Params} {n : Nat} {r : Ranger} (h : r.AtTriggerCycle p n) : r.st ≠ .idle := by
  obtain ⟨hlow, hhigh, hstale⟩ := h
  by_cases h1 : n < p.settleCyc
  · simp [hlow h1]
  · by_cases h2 : n < p.settleCyc + p.pulseCyc
    · simp [hhigh (not_lt.1 h1) h2]
    · simp [hstale (not_lt.1 h2)]

theorem rtim_eq_one_iff (x : BitVec 16) : x = 1#16 ↔ x.toNat = 1 := (BitVec.toNat_inj (y := 1#16)).symm

/-- Each cycle of the trigger phase is followed by the next one. -/
theorem Ranger.AtTriggerCycle.tick {p : Params} {n : Nat} {r : Ranger} (hv : p.Valid) (h : r.AtTriggerCycle p n)
    (hn : n < p.settleCyc + p.pulseCyc) (tmo : BitVec 32) (echo : Bool) :
    (r.tick p tmo echo).AtTriggerCycle p (n + 1) := by
  obtain ⟨-, -, hpos, hpulse⟩ := triggerLengths hv
  obtain ⟨hlow, hhigh, -⟩ := h
  by_cases hphase : n < p.settleCyc
  · obtain ⟨hst, hrtim⟩ := hlow hphase
    rw [tick_trigLow hst]
    split <;> rename_i h1 <;> rw [rtim_eq_one_iff] at h1
    · exact ⟨fun _ => by omega, fun _ _ => ⟨rfl, by simp only [hpulse]; omega⟩, fun _ => by omega⟩
    · have hdec : (r.rtim - 1#16).toNat + (n + 1) = p.settleCyc := by bv_omega
      exact ⟨fun _ => ⟨hst, hdec⟩, fun _ => by omega, fun _ => by omega⟩
  · obtain ⟨hst, hrtim⟩ := hhigh (not_lt.1 hphase) hn
    rw [tick_trigHigh hst]
    split <;> rename_i h1 <;> rw [rtim_eq_one_iff] at h1
    · exact ⟨fun _ => by omega, fun _ _ => by omega, fun _ => rfl⟩
    · have hdec : (r.rtim - 1#16).toNat + (n + 1) = p.settleCyc + p.pulseCyc := by bv_omega
      exact ⟨fun _ => by omega, fun _ _ => ⟨hst, hdec⟩, fun _ => by omega⟩

/-- A live run inside the trigger phase, whatever the echo and the host do. -/
theorem runOn_trigger {is : List CycleInput} {s : State} {n : Nat} (hv : s.cfg.Valid)
    (h : s.rng.AtTriggerCycle s.cfg n) (hlive : ∀ i ∈ is, i.live)
    (hn : n + is.length ≤ s.cfg.settleCyc + s.cfg.pulseCyc) :
    ∃ t, runOn is s = .next t ∧ t.rng.AtTriggerCycle s.cfg (n + is.length) := by
  induction is generalizing s n with
  | nil => exact ⟨s, rfl, h⟩
  | cons i is ih =>
    rw [List.length_cons] at hn
    obtain ⟨t, ht, hcfg, hrng, -⟩ := stepOn_busy hv (hlive i (by simp)) h.ne_idle
    have htick : t.rng.AtTriggerCycle t.cfg (n + 1) := by
      rw [hrng, hcfg]
      exact h.tick hv (by omega) ..
    obtain ⟨u, hu, hphase⟩ := ih (hcfg ▸ hv) htick (fun j hj => hlive j (by simp [hj])) (by rw [hcfg]; omega)
    refine ⟨u, by rw [runOn_cons_next ht, hu], ?_⟩
    rwa [hcfg, Nat.add_assoc, Nat.add_comm 1] at hphase

/-- Settles O33, by the phase the Ranger is in at the end of the run. -/
theorem triggerPulseTiming : Obligations.TriggerPulseTiming := by
  unfold Obligations.TriggerPulseTiming
  intro s is hv hst hrtim hlive hlen
  obtain ⟨hsettle, -, -, -⟩ := triggerLengths hv
  have hstart : s.rng.AtTriggerCycle s.cfg 0 := ⟨fun _ => ⟨hst, hrtim⟩, fun _ => by omega, fun _ => by omega⟩
  obtain ⟨t, ht, hlow, hhigh, hstale⟩ := runOn_trigger hv hstart hlive (by omega)
  rw [Nat.zero_add] at hlow hhigh hstale
  refine ⟨t, ht, ?_⟩
  simp only [State.outputs, decide_eq_true_eq]
  by_cases h1 : is.length < s.cfg.settleCyc
  · simp [hlow h1, h1]
  · by_cases h2 : is.length < s.cfg.settleCyc + s.cfg.pulseCyc
    · simp [hhigh (not_lt.1 h1) h2, h1, h2, not_lt.1 h1]
    · simp [hstale (not_lt.1 h2), h1, h2]

/-! ### Runs of the wait and the count (R68 to R70) -/

/-- The Ranger after cycles that end no pulse, the timeout counter left out. -/
def Ranger.advanceAll (is : List CycleInput) (r : Ranger) : Ranger := is.foldl (fun q i => q.advance i.echo) r

@[simp] theorem Ranger.advanceAll_nil (r : Ranger) : r.advanceAll [] = r := rfl
@[simp] theorem Ranger.advanceAll_cons (i : CycleInput) (is : List CycleInput) (r : Ranger) :
    r.advanceAll (i :: is) = (r.advance i.echo).advanceAll is := rfl

theorem Ranger.advanceAll_append (is js : List CycleInput) (r : Ranger) :
    r.advanceAll (is ++ js) = (r.advanceAll is).advanceAll js := List.foldl_append

theorem Ranger.advanceAll_elapse (is : List CycleInput) (n : Nat) (r : Ranger) :
    (r.elapse n).advanceAll is = (r.advanceAll is).elapse n := by
  induction is generalizing r with
  | nil => rfl
  | cons i is ih => rw [advanceAll_cons, advanceAll_cons, advance_elapse, ih]

/-- A run that ends no pulse stays in the wait or the count and keeps the last measurement's results. -/
theorem Ranger.Measuring.advanceAll {r : Ranger} (h : r.Measuring) (is : List CycleInput) :
    (r.advanceAll is).Measuring ∧ (r.advanceAll is).tmoEn = r.tmoEn ∧ (r.advanceAll is).tmoLeft = r.tmoLeft ∧
      (r.advanceAll is).dist = r.dist ∧ (r.advanceAll is).pwcnt = r.pwcnt := by
  induction is generalizing r with
  | nil => exact ⟨h, rfl, rfl, rfl, rfl⟩
  | cons i is ih => simpa using ih (h.advance i.echo)

/-- No COUNT cycle samples echo = 0: the cycle ends no pulse. -/
abbrev EndsNoPulse (w : State) (i : CycleInput) : Prop := w.rng.st = .count → i.echo = true

theorem Ranger.timesOut_of_time_left {r : Ranger} (h : r.tmoEn = true → 1 < r.tmoLeft.toNat) (echo : Bool) :
    r.timesOut echo = false := by
  refine Bool.eq_false_iff.2 fun hout => ?_
  simp only [timesOut, Bool.and_eq_true, decide_eq_true_eq, timing_iff] at hout
  obtain ⟨⟨hen, -⟩, hleft⟩ := hout
  exact absurd (h hen) (by simp [hleft])

/-- A live run of the wait and the count that ends no pulse, with no timeout or with more cycles left than it takes. -/
theorem runOn_measuring {is : List CycleInput} {s : State} (hv : s.cfg.Valid) (hm : s.rng.Measuring)
    (hlive : ∀ i ∈ is, i.live) (hpulse : EachCycle EndsNoPulse is s)
    (htime : s.rng.tmoEn = true → is.length < s.rng.tmoLeft.toNat) :
    ∃ t, runOn is s = .next t ∧ RangerMoves s t ((s.rng.advanceAll is).elapse is.length) := by
  induction is generalizing s with
  | nil => exact ⟨s, rfl, rfl, by simp, id⟩
  | cons i is ih =>
    rw [List.length_cons] at htime
    have hout := Ranger.timesOut_of_time_left (fun hen => by have := htime hen; omega) i.echo
    obtain ⟨t, ht, hmoves, -⟩ := stepOn_of_not_timesOut hv (hlive i (by simp)) hm.ne_idle hout
    obtain ⟨hhigh, hrest⟩ := (eachCycle_cons_next ht).1 hpulse
    have hrng : t.rng = (s.rng.advance i.echo).elapse 1 := by
      rw [hmoves.rng_eq, Ranger.tick_of_measuring hm hhigh hout]
    have htime' : t.rng.tmoEn = true → is.length < t.rng.tmoLeft.toNat := by
      rw [hrng, Ranger.elapse_tmoEn, Ranger.advance_tmoEn]
      intro hen
      have hleft := htime hen
      rw [Ranger.elapse_tmoLeft_toNat (by simpa using hen) (by simp; omega), Ranger.advance_tmoLeft]
      omega
    have hm' : t.rng.Measuring := by rw [hrng]; exact hm.advance i.echo
    obtain ⟨u, hu, hmoves'⟩ := ih (hmoves.cfg_eq ▸ hv) hm' (fun j hj => hlive j (by simp [hj])) hrest htime'
    rw [hrng, Ranger.advanceAll_elapse, Ranger.elapse_elapse, Nat.add_comm 1] at hmoves'
    exact ⟨u, by rw [runOn_cons_next ht, hu], hmoves.trans hmoves'⟩

/-- The same run in the numbers of the running timeout. -/
theorem runOn_measuring_timed {is : List CycleInput} {s : State} (hv : s.cfg.Valid) (hm : s.rng.Measuring)
    (hlive : ∀ i ∈ is, i.live) (hpulse : EachCycle EndsNoPulse is s) (hen : s.rng.tmoEn = true)
    (htime : is.length < s.rng.tmoLeft.toNat) :
    ∃ t, runOn is s = .next t ∧ t.cfg = s.cfg ∧ t.rng.Measuring ∧ t.rng.tmoEn = true ∧
      t.rng.tmoLeft.toNat = s.rng.tmoLeft.toNat - is.length ∧ t.rng.dist = s.rng.dist ∧ t.rng.pwcnt = s.rng.pwcnt ∧
      t.rng.rcnt = (s.rng.advanceAll is).rcnt := by
  obtain ⟨t, ht, hcfg, hrng, -⟩ := runOn_measuring hv hm hlive hpulse fun _ => htime
  obtain ⟨hmeas, hen', hleft, hdist, hpwcnt⟩ := hm.advanceAll is
  refine ⟨t, ht, hcfg, ?_⟩
  rw [hrng, Ranger.elapse_tmoLeft_toNat (hen'.trans hen) (by rw [hleft]; exact htime.le), hleft]
  exact ⟨hmeas, hen'.trans hen, rfl, hdist, hpwcnt, rfl⟩

/-! ### The ticks counted along an echo (R69, R70) -/

theorem sat32_of_toNat (x : BitVec 32) : sat32 x.toNat = x := by
  have hx := x.isLt
  exact BitVec.eq_of_toNat_eq (by rw [sat32_toNat]; omega)

theorem sat32_add (m n : Nat) : sat32 ((sat32 m).toNat + n) = sat32 (m + n) := by
  refine BitVec.eq_of_toNat_eq ?_
  simp only [sat32_toNat]
  omega

/-- COUNT adds a tick a cycle. -/
theorem Ranger.advanceAll_count {r : Ranger} (h : r.st = .count) (is : List CycleInput) :
    r.advanceAll is = { r with rcnt := sat32 (r.rcnt.toNat + is.length) } := by
  induction is generalizing r with
  | nil => simp [sat32_of_toNat]
  | cons i is ih =>
    have hadv : r.advance i.echo = { r with rcnt := sat32 (r.rcnt.toNat + 1) } := by rw [advance, h]
    rw [advanceAll_cons, hadv, ih (r := { r with rcnt := sat32 (r.rcnt.toNat + 1) }) h, sat32_add, List.length_cons,
      Nat.add_assoc, Nat.add_comm 1]

/-- The Ranger waits as long as the echo keeps the level that its state waits out. -/
theorem Ranger.advanceAll_of_advance_eq {r : Ranger} {e : Bool} (h : r.advance e = r) {is : List CycleInput}
    (his : ∀ i ∈ is, i.echo = e) : r.advanceAll is = r := by
  induction is with
  | nil => rfl
  | cons i is ih =>
    rw [advanceAll_cons, his i (by simp), h]
    exact ih fun j hj => his j (by simp [hj])

theorem Ranger.advance_stale_high {r : Ranger} (h : r.st = .waitStale) : r.advance true = r := by
  cases r; cases h; rfl

theorem Ranger.advance_rise_low {r : Ranger} (h : r.st = .waitRise) : r.advance false = r := by
  cases r; cases h; rfl

/-- A low gap from WAIT_STALE, or a gap that may be empty from WAIT_RISE, leaves WAIT_RISE. -/
theorem Ranger.advanceAll_gap {r : Ranger} {a : List CycleInput} (ha : ∀ i ∈ a, i.echo = false)
    (hst : r.st = .waitRise ∨ (r.st = .waitStale ∧ a ≠ [])) : r.advanceAll a = { r with st := .waitRise } := by
  obtain hst | ⟨hst, hne⟩ := hst
  · rw [advanceAll_of_advance_eq (advance_rise_low hst) ha, ← hst]
  · obtain ⟨i, a, rfl⟩ := List.exists_cons_of_ne_nil hne
    have hadv : r.advance i.echo = { r with st := .waitRise } := by simp [advance, hst, ha i]
    rw [advanceAll_cons, hadv]
    exact advanceAll_of_advance_eq (advance_rise_low rfl) fun j hj => ha j (by simp [hj])

/-- A pulse from WAIT_RISE gives a tick a cycle, the cycle of the rise among them. -/
theorem Ranger.advanceAll_pulse {r : Ranger} {b : List CycleInput} (hst : r.st = .waitRise) (hne : b ≠ [])
    (hb : ∀ i ∈ b, i.echo = true) : r.advanceAll b = { r with st := .count, rcnt := sat32 b.length } := by
  obtain ⟨i, b, rfl⟩ := List.exists_cons_of_ne_nil hne
  have hadv : r.advance i.echo = { r with st := .count, rcnt := 1#32 } := by simp [advance, hst, hb i]
  rw [advanceAll_cons, hadv, advanceAll_count rfl, List.length_cons, Nat.add_comm]
  rfl

/-- A stale level, from WAIT_STALE, is waited out. -/
theorem Ranger.advanceAll_stale {r : Ranger} {c : List CycleInput} (hc : ∀ i ∈ c, i.echo = true)
    (hst : (r.st = .waitRise ∧ c = []) ∨ r.st = .waitStale) : r.advanceAll c = r := by
  obtain ⟨-, rfl⟩ | hst := hst
  · rfl
  · exact advanceAll_of_advance_eq (advance_stale_high hst) hc

/-- A stale level, a low gap and a pulse: the ticks are those of the pulse. -/
theorem Ranger.advanceAll_echo {r : Ranger} {c a b : List CycleInput} (hc : ∀ i ∈ c, i.echo = true)
    (ha : ∀ i ∈ a, i.echo = false) (hb : ∀ i ∈ b, i.echo = true) (hne : b ≠ [])
    (hst : (r.st = .waitRise ∧ c = []) ∨ (r.st = .waitStale ∧ a ≠ [])) :
    r.advanceAll (c ++ a ++ b) = { r with st := .count, rcnt := sat32 b.length } := by
  rw [advanceAll_append, advanceAll_append, advanceAll_stale hc (hst.imp id And.left),
    advanceAll_gap ha (hst.imp And.left id), advanceAll_pulse rfl hne hb]

/-- Before the rise RCNT keeps its value. -/
theorem Ranger.advanceAll_rcnt_of_no_pulse {r : Ranger} {c a : List CycleInput} (hc : ∀ i ∈ c, i.echo = true)
    (ha : ∀ i ∈ a, i.echo = false) (hst : (r.st = .waitRise ∧ c = []) ∨ r.st = .waitStale) :
    (r.advanceAll (c ++ a)).rcnt = r.rcnt := by
  rw [advanceAll_append, advanceAll_stale hc hst]
  by_cases hne : a = []
  · rw [hne, advanceAll_nil]
  · rw [advanceAll_gap ha (hst.imp And.left fun h => ⟨h, hne⟩)]

/-- RCNT one cycle before the end of a stale level, a low gap and a pulse that is cut off there. -/
theorem Ranger.advanceAll_dropLast_rcnt {r : Ranger} {c a b : List CycleInput} (hc : ∀ i ∈ c, i.echo = true)
    (ha : ∀ i ∈ a, i.echo = false) (hb : ∀ i ∈ b, i.echo = true)
    (hst : (r.st = .waitRise ∧ c = []) ∨ (r.st = .waitStale ∧ (a ≠ [] ∨ b = []))) :
    (r.advanceAll (c ++ a ++ b).dropLast).rcnt.toNat =
      if 2 ≤ b.length then min (b.length - 1) (2 ^ 32 - 1) else r.rcnt.toNat := by
  have hwait : (r.st = .waitRise ∧ c = []) ∨ r.st = .waitStale := hst.imp id And.left
  by_cases hne : b = []
  · subst hne
    rw [List.append_nil, if_neg (by simp), List.dropLast_append]
    split
    · have hc' : ∀ i ∈ c.dropLast, i.echo = true := fun i hi => hc i (List.mem_of_mem_dropLast hi)
      rw [← List.append_nil c.dropLast, advanceAll_rcnt_of_no_pulse hc' (by simp) (hwait.imp (by simp_all) id)]
    · rw [advanceAll_rcnt_of_no_pulse hc (fun i hi => ha i (List.mem_of_mem_dropLast hi)) hwait]
  · rw [List.dropLast_append_of_ne_nil hne]
    split
    · have hlen : b.dropLast ≠ [] := List.ne_nil_of_length_pos (by rw [List.length_dropLast]; omega)
      have hst' : (r.st = .waitRise ∧ c = []) ∨ (r.st = .waitStale ∧ a ≠ []) := by simpa [hne] using hst
      rw [advanceAll_echo hc ha (fun i hi => hb i (List.mem_of_mem_dropLast hi)) hlen hst', sat32_toNat,
        List.length_dropLast]
    · have hnil : b.dropLast = [] := List.length_eq_zero_iff.1 (by rw [List.length_dropLast]; omega)
      rw [hnil, List.append_nil, advanceAll_rcnt_of_no_pulse hc ha hwait]

/-! ### The timeout (R72, R78, R120) -/

theorem firstBand_eq_silence {p : Params} {q : Nat} {ks : List Nat} (h : ∀ k ∈ ks, bandHigh p k ≤ q) :
    firstBand p q ks = silence := by
  induction ks with
  | nil => rfl
  | cons k ks ih =>
    have hk := h k (by simp)
    rw [firstBand, if_neg (by omega)]
    exact ih fun j hj => h j (by simp [hj])

/-- A distance past the last band is silent. -/
theorem noteFor_of_bandMax_le {p : Params} {q : BitVec 32} (h : p.bandMax ≤ q.toNat) : noteFor p q = silence := by
  refine firstBand_eq_silence fun k hk => le_trans ?_ h
  rw [List.mem_range, nNotes] at hk
  rw [bandHigh, bandLow, Params.bandMax, nNotes, bandW]
  omega

/-- The distance a timeout leaves is silent in every valid build. -/
theorem noteFor_timeout {p : Params} (hv : p.Valid) : noteFor p 0xFFFFFFFF#32 = 8#4 := by
  obtain ⟨-, -, -, -, -, -, -, -, -, hband⟩ := hv
  exact noteFor_of_bandMax_le hband

/-- A live run that ends no pulse, as long as the cycles left: the timeout fires in its last cycle. -/
theorem runOn_timeout {is : List CycleInput} {last : CycleInput} {s : State} (hv : s.cfg.Valid)
    (hm : s.rng.Measuring) (hlive : ∀ i ∈ is ++ [last], i.live) (hpulse : EachCycle EndsNoPulse (is ++ [last]) s)
    (hen : s.rng.tmoEn = true) (hlen : is.length + 1 = s.rng.tmoLeft.toNat) :
    ∃ w t, runOn is s = .next w ∧ w.rng.rcnt = (s.rng.advanceAll is).rcnt ∧
      runOn (is ++ [last]) s = .next t ∧ t.rng = w.rng.afterTimeout ∧ t.flag .rngTmo = true ∧
      t.flag .rngDone = true := by
  obtain ⟨w, hw, hcfg, hmw, henw, hleft, -, -, hrcnt⟩ :=
    runOn_measuring_timed hv hm (fun i hi => hlive i (by simp [hi])) (eachCycle_prefix hpulse) hen (by omega)
  obtain ⟨-, hhigh, -⟩ := (eachCycle_append hw).1 hpulse
  have hout : TimeoutCycle last w := by
    refine ⟨henw, BitVec.eq_of_toNat_eq (by rw [hleft, ← hlen]; simp), ?_⟩
    exact hmw.imp id (Or.imp id fun h => ⟨h, hhigh h⟩)
  obtain ⟨t, ht, hrng, htmo, hdone⟩ := stepOn_of_timeoutCycle (hcfg ▸ hv) (hlive last (by simp)) hout
  refine ⟨w, t, hw, hrcnt, ?_, hrng, htmo, hdone⟩
  rw [runOn_append hw, runOn_cons_next ht, runOn_nil]

/-- Settles O36: before the timeout the run of the wait and the count, in its last cycle R72 with the ticks counted. -/
theorem timeoutFiresOnTime : Obligations.TimeoutFiresOnTime := by
  unfold Obligations.TimeoutFiresOnTime
  intro s is hv hen hm hpos hlen hlive hpulse
  obtain hlt | heq := Nat.lt_or_eq_of_le hlen
  · obtain ⟨t, ht, -, hmeas, hen', hleft, hdist, hpwcnt, -⟩ := runOn_measuring_timed hv hm hlive hpulse hen hlt
    exact ⟨t, ht, fun _ => ⟨hmeas, hen', hleft, hdist, hpwcnt⟩, fun h => absurd h hlt.ne⟩
  · obtain rfl | ⟨is, last, rfl⟩ := List.eq_nil_or_concat' is
    · rw [List.length_nil] at heq; omega
    obtain ⟨w, t, hw, hrcnt, ht, hrng, htmo, hdone⟩ :=
      runOn_timeout hv hm hlive hpulse hen (by simpa using heq)
    have hpwcnt : t.rng.pwcnt = (s.rng.advanceAll is).rcnt := by rw [hrng, ← hrcnt]; rfl
    have hdist : t.rng.dist = 0xFFFFFFFF#32 := by rw [hrng]; rfl
    refine ⟨t, ht, fun h => absurd heq h.ne, fun _ => ⟨by rw [hrng]; rfl, by rw [hrng]; rfl, hdist, ?_, htmo, hdone,
      ⟨w, ?_, by rw [hrng]; rfl⟩, fun hst => ?_, fun c a b habc hc ha hb hst => ?_⟩⟩
    · rw [hdist]
      exact noteFor_timeout hv
    · rw [List.dropLast_concat, hw]
    · rw [hpwcnt, Ranger.advanceAll_count hst, sat32_toNat, List.length_append, List.length_singleton,
        Nat.add_sub_cancel]
    · have hinit : is = (c ++ a ++ b).dropLast := by rw [← habc, List.dropLast_concat]
      rw [hpwcnt, hinit]
      exact Ranger.advanceAll_dropLast_rcnt hc ha hb hst

/-! ### A completed pulse (R68 to R71) -/

/-- A high echo ends no pulse. -/
theorem eachCycle_of_high {is : List CycleInput} (h : ∀ i ∈ is, i.echo = true) (s : State) :
    EachCycle EndsNoPulse is s := by
  induction is generalizing s with
  | nil => trivial
  | cons i is ih => exact ⟨fun _ => h i (by simp), fun t _ => ih (fun j hj => h j (by simp [hj])) t⟩

theorem eachCycle_append_of {C : State → CycleInput → Prop} {is js : List CycleInput} {s : State}
    (his : EachCycle C is s) (hjs : ∀ t, EachCycle C js t) : EachCycle C (is ++ js) s := by
  induction is generalizing s with
  | nil => exact hjs s
  | cons i is ih => exact ⟨his.1, fun t ht => ih (his.2 t ht)⟩

/-- COUNT is entered and kept at a high echo only (R69, R70). -/
theorem Ranger.tick_low_ne_count (p : Params) (tmo : BitVec 32) (r : Ranger) : (r.tick p tmo false).st ≠ .count := by
  have hrule : ∀ q : Ranger, (q.stateRule p tmo false).st ≠ .count := by
    intro q
    unfold stateRule
    cases hst : q.st
    case trigLow => dsimp only; split <;> simp
    case trigHigh => dsimp only; split <;> simp
    all_goals simp [hst]
  obtain ⟨-, h⟩ | ⟨-, -, h⟩ | ⟨-, -, h⟩ := tick_cases p tmo false r <;> rw [h]
  · simp [afterTimeout]
  · exact hrule _
  · exact hrule _

/-- After a cycle with echo = 0 the Ranger does not count, whatever it did before. -/
theorem stepOn_low_ne_count {i : CycleInput} {s t : State} (h : stepOn i s = .next t) (he : i.echo = false) :
    t.rng.st ≠ .count := by
  obtain ⟨-, ⟨-, rfl⟩ | ⟨b, -, hb, rfl⟩⟩ := step_next_cases (s := s.withInput i) h
  · simp [State.resetOf]
  · rw [State.endCycle_rng, unitsCycle_rng]
    split
    next hidle =>
      obtain h | h := busAccess_rng_cases hb <;> rw [h]
      · rw [hidle]; decide
      · simp [Ranger.start]
    next => rw [State.input_withInput, he]; apply Ranger.tick_low_ne_count

/-- A stale level, a low gap and a pulse: no pulse ends in the course of it. -/
theorem eachCycle_echo {stale gap pulse : List CycleInput} {s t : State} (ht : runOn stale s = .next t)
    (hst : t.rng.st ≠ .count) (hstale : ∀ i ∈ stale, i.echo = true) (hgap : ∀ i ∈ gap, i.echo = false)
    (hpulse : ∀ i ∈ pulse, i.echo = true) : EachCycle EndsNoPulse (stale ++ gap ++ pulse) s := by
  have hlow : EachCycle EndsNoPulse gap t :=
    eachCycle_mono (fun w i h hcount => absurd hcount h)
      (eachCycle_of_kept (I := fun w => w.rng.st ≠ .count) hst fun i hi w u _ hu => stepOn_low_ne_count hu (hgap i hi))
  exact eachCycle_append_of ((eachCycle_append ht).2 ⟨eachCycle_of_high hstale s, hlow⟩) (eachCycle_of_high hpulse)

/-- A pulse of N cycles after a stale level and a low gap is counted. -/
theorem runOn_echo {stale gap pulse : List CycleInput} {s : State} (hv : s.cfg.Valid)
    (hst : (s.rng.st = .waitRise ∧ stale = []) ∨ (s.rng.st = .waitStale ∧ gap ≠ []))
    (htime : s.rng.tmoEn = true → stale.length + gap.length + pulse.length < s.rng.tmoLeft.toNat)
    (hlive : ∀ i ∈ stale ++ gap ++ pulse, i.live) (hstale : ∀ i ∈ stale, i.echo = true)
    (hgap : ∀ i ∈ gap, i.echo = false) (hne : pulse ≠ []) (hpulse : ∀ i ∈ pulse, i.echo = true) :
    ∃ t, runOn (stale ++ gap ++ pulse) s = .next t ∧
      RangerMoves s t (({ s.rng with st := .count, rcnt := sat32 pulse.length } : Ranger).elapse
        (stale ++ gap ++ pulse).length) := by
  have hm : s.rng.Measuring := by
    obtain ⟨h, -⟩ | ⟨h, -⟩ := hst
    · exact .inr (.inl h)
    · exact .inl h
  obtain ⟨t, ht, -, hrng, -⟩ := runOn_measuring hv hm (fun i hi => hlive i (by simp [hi]))
    (eachCycle_of_high hstale s) fun hen => by have := htime hen; omega
  have hcount : t.rng.st ≠ .count := by
    rw [hrng, Ranger.elapse_st, Ranger.advanceAll_stale hstale (hst.imp id And.left)]
    obtain ⟨h, -⟩ | ⟨h, -⟩ := hst <;> simp [h]
  have hrun := runOn_measuring hv hm hlive (eachCycle_echo ht hcount hstale hgap hpulse)
    (by simpa only [List.length_append] using htime)
  rwa [Ranger.advanceAll_echo hstale hgap hpulse hne hst] at hrun

/-- The two cycles that end a pulse: the low echo, then CONVERT. -/
theorem runOn_convert {s : State} {low last : CycleInput} (hv : s.cfg.Valid) (hst : s.rng.st = .count)
    (hlow : low.live) (he : low.echo = false) (hlast : last.live) :
    ∃ t, runOn [low, last] s = .next t ∧
      RangerMoves s t { s.rng with
        st := .idle, tmoEn := false, dist := distOf s.cfg s.rng.rcnt, pwcnt := s.rng.rcnt } ∧
      t.flag .rngDone = true := by
  obtain ⟨u, hu, hmoves, -⟩ := stepOn_of_not_timesOut hv hlow (by simp [hst]) (he ▸ Ranger.timesOut_of_count_low hst)
  have hrng : u.rng = { s.rng with st := .convert } := by rw [hmoves.rng_eq, he, Ranger.tick_count_low hst]
  have hconvert : u.rng.st = .convert := by rw [hrng]
  have hout : u.rng.timesOut last.echo = false := by simp [Ranger.timesOut, Ranger.timing, hconvert]
  obtain ⟨t, ht, hmoves', hdone⟩ := stepOn_of_not_timesOut (hmoves.cfg_eq ▸ hv) hlast (by simp [hconvert]) hout
  rw [Ranger.tick_convert hconvert, hmoves.cfg_eq, hrng] at hmoves'
  exact ⟨t, by rw [runOn_cons_next hu, runOn_cons_next ht, runOn_nil], hmoves.trans hmoves', hdone hconvert⟩

/-- Settles O35: the run that counts the pulse, then the two cycles that end it. -/
theorem echoPulseIsMeasured : Obligations.EchoPulseIsMeasured := by
  unfold Obligations.EchoPulseIsMeasured
  intro s stale gap pulse low last hv hst htime hstale hgap hne hpulse hlow he hlast
  have hlive : ∀ i ∈ stale ++ gap ++ pulse, i.live := by
    intro i hi
    obtain hi | hi | hi : i ∈ stale ∨ i ∈ gap ∨ i ∈ pulse := by simpa [or_assoc] using hi
    · exact (hstale i hi).1
    · exact (hgap i hi).1
    · exact (hpulse i hi).1
  obtain ⟨u, hu, hcount⟩ := runOn_echo hv hst.symm htime hlive (fun i hi => (hstale i hi).2)
    (fun i hi => (hgap i hi).2) hne fun i hi => (hpulse i hi).2
  have hrcnt : u.rng.rcnt = sat32 pulse.length := by rw [hcount.rng_eq]; rfl
  obtain ⟨t, ht, hconvert, hdone⟩ := runOn_convert (hcount.cfg_eq ▸ hv) (by rw [hcount.rng_eq]; rfl) hlow he hlast
  obtain ⟨-, hrng, htmo⟩ := hcount.trans hconvert
  refine ⟨t, by rw [runOn_append hu, ht], ?_⟩
  rw [hrng, hcount.cfg_eq]
  exact ⟨rfl, rfl, by rw [hrcnt, sat32_toNat], rfl, hdone, htmo⟩

end Sys2Proof.Machine
end

/-! PROOFS. The NoteMapper: the one band that can contain a distance, the note of that band, the closed form of the
first-match chain, and the statements on them. -/

section
namespace Sys2Proof.Machine

/-! ### The bands (R77): half-open, adjacent and ascending -/

/-- The quotient of R78 is the number of the band that contains the distance. -/
theorem mem_band_iff {p : Params} {q k : Nat} :
    (bandLow p k ≤ q ∧ q < bandHigh p k) ↔ p.bandMin.toNat ≤ q ∧ (q - p.bandMin.toNat) / bandW = k := by
  rw [bandHigh, bandLow, bandW]
  omega

theorem band_unique {p : Params} {q j k : Nat} (hj : bandLow p j ≤ q ∧ q < bandHigh p j)
    (hk : bandLow p k ≤ q ∧ q < bandHigh p k) : j = k :=
  (mem_band_iff.1 hj).2.symm.trans (mem_band_iff.1 hk).2

/-- A distance below the bands lies in none of them. -/
theorem firstBand_of_lt_bandMin {p : Params} {q : Nat} (h : q < p.bandMin.toNat) (ks : List Nat) :
    firstBand p q ks = silence := by
  induction ks with
  | nil => rfl
  | cons k ks ih =>
    have hout : ¬ (bandLow p k ≤ q ∧ q < bandHigh p k) := fun hk => absurd (mem_band_iff.1 hk).1 (by omega)
    rw [firstBand, if_neg hout, ih]

/-- The chain stops at the band that contains the distance: by uniqueness no band before it matches. -/
theorem firstBand_of_mem_band {p : Params} {q k : Nat} (hq : bandLow p k ≤ q ∧ q < bandHigh p k) {ks : List Nat}
    (hk : k ∈ ks) : firstBand p q ks = BitVec.ofNat 4 (nNotes - 1 - k) := by
  induction ks with
  | nil => exact absurd hk List.not_mem_nil
  | cons j ks ih =>
    rw [firstBand]
    split
    next hj => rw [band_unique hj hq]
    next hj =>
      obtain rfl | hk := List.mem_cons.1 hk
      · exact absurd hq hj
      · exact ih hk

/-! ### The note of a distance (R77, R78) -/

theorem noteFor_of_lt_bandMin {p : Params} {q : BitVec 32} (h : q.toNat < p.bandMin.toNat) : noteFor p q = silence :=
  firstBand_of_lt_bandMin h _

theorem noteFor_of_mem_band {p : Params} {q : BitVec 32} {k : Nat} (hk : k < nNotes)
    (hq : bandLow p k ≤ q.toNat ∧ q.toNat < bandHigh p k) : noteFor p q = BitVec.ofNat 4 (nNotes - 1 - k) :=
  firstBand_of_mem_band hq (List.mem_range.2 hk)

/-- R78: below the bands, past them, or in the band of the quotient. -/
theorem noteFor_eq_noteForClosed (p : Params) (q : BitVec 32) : noteFor p q = noteForClosed p q := by
  rw [noteForClosed]
  split
  next hout => exact hout.elim noteFor_of_lt_bandMin noteFor_of_bandMax_le
  next hin =>
    obtain ⟨hmin, hmax⟩ : p.bandMin.toNat ≤ q.toNat ∧ q.toNat < p.bandMax := by omega
    have hk : (q.toNat - p.bandMin.toNat) / bandW < nNotes := by
      rw [Params.bandMax, nNotes, bandW] at hmax
      rw [nNotes, bandW]
      omega
    exact noteFor_of_mem_band hk (mem_band_iff.2 ⟨hmin, rfl⟩)

/-- Settles O41: the closed form of the model, and the uniqueness of the band. -/
theorem noteForIsClosedForm : Obligations.NoteForIsClosedForm := by
  unfold Obligations.NoteForIsClosedForm
  intro p q
  exact ⟨noteFor_eq_noteForClosed p q, fun _ _ _ _ hlj hhj hlk hhk => band_unique ⟨hlj, hhj⟩ ⟨hlk, hhk⟩⟩

/-- Settles O42: 14.9 cm lies in the first band, 49.9 cm in the last one, 51 cm past the last one. -/
theorem sourceExamplesOfNoteFor : Obligations.SourceExamplesOfNoteFor := by
  unfold Obligations.SourceExamplesOfNoteFor
  intro p hlo hhi
  have hnear : bandLow p 0 ≤ 976486 ∧ 976486 < bandHigh p 0 := by
    rw [bandHigh, bandLow, bandW]; omega
  have hfar : bandLow p 7 ≤ 3270246 ∧ 3270246 < bandHigh p 7 := by
    rw [bandHigh, bandLow, bandW]; omega
  have hpast : p.bandMax ≤ 3342336 := by
    rw [Params.bandMax, nNotes, bandW]; omega
  exact ⟨noteFor_of_mem_band (k := 0) (by decide) hnear, noteFor_of_mem_band (k := 7) (by decide) hfar,
    noteFor_of_bandMax_le hpast⟩

end Sys2Proof.Machine
end

/-! PROOFS. PLAY and the samples: the answers of the PLAY command, the value of a sample, and the statements on them. -/

section
namespace Sys2Proof.Machine

/-! ### PLAY (R58, R81 to R83, R118, R119) -/

theorem playLegal_eq_true_iff (note : NoteCode) (oct : OctCode) :
    playLegal note oct = true ↔ note.toNat ≤ 8 ∧ oct ≠ 3#2 := by
  have hoct : oct.toNat = 3 ↔ oct = 3#2 := BitVec.toNat_inj (y := 3#2)
  simp [playLegal, hoct]

theorem playLegal_eq_false_iff (note : NoteCode) (oct : OctCode) :
    playLegal note oct = false ↔ 8 < note.toNat ∨ oct = 3#2 := by
  rw [← Bool.not_eq_true, playLegal_eq_true_iff, not_and_or, not_le, not_not]

theorem exec_play_of_illegal {note : NoteCode} {oct : OctCode} (h : playLegal note oct = false) (durMs : BitVec 16)
    (s : State) : exec (.play note oct durMs) s = .next (s.raise .errCmd) := by
  simp [exec, execPlay, h]

theorem exec_play_of_firing {note : NoteCode} {oct : OctCode} {s : State} (hlegal : playLegal note oct = true)
    (hf : s.seq.st = .firing) (durMs : BitVec 16) : exec (.play note oct durMs) s = .next (s.raise .errLock) := by
  simp [exec, execPlay, hlegal, hf]

theorem exec_play_of_busy {note : NoteCode} {oct : OctCode} {s : State} (hlegal : playLegal note oct = true)
    (harmed : s.seq.st = .armed) (hact : s.fv.act = true) (durMs : BitVec 16) :
    exec (.play note oct durMs) s = .next (s.raise .errBusy) := by
  simp [exec, execPlay, hlegal, harmed, hact]

theorem exec_play_of_noVoice {note : NoteCode} {oct : OctCode} {durMs : BitVec 16} {s : State}
    (hlegal : playLegal note oct = true) (harmed : s.seq.st = .armed) (hidle : s.fv.act = false)
    (hnone : noteVoice s.cfg note oct s.adc.vlevel durMs = none) :
    exec (.play note oct durMs) s = .next ((s.recordPlayback note oct).raise .synDone) := by
  simp [exec, execPlay, hlegal, harmed, hidle, hnone]

theorem exec_play_of_voice {note : NoteCode} {oct : OctCode} {durMs : BitVec 16} {s : State} {v : Voice}
    (hlegal : playLegal note oct = true) (harmed : s.seq.st = .armed) (hidle : s.fv.act = false)
    (hsome : noteVoice s.cfg note oct s.adc.vlevel durMs = some v) :
    exec (.play note oct durMs) s = .next { s.recordPlayback note oct with fv := v } := by
  simp [exec, execPlay, hlegal, harmed, hidle, hsome]

/-- Settles O8: the note loads the voice of R87, and PLAY puts it in FV. -/
theorem playLoadsForegroundVoice : Obligations.PlayLoadsForegroundVoice := by
  unfold Obligations.PlayLoadsForegroundVoice
  intro s n oct durMs hoct harmed hidle hdiv hreps
  have hsounds : oct ≠ inactive ∧ oct ≠ 3#2 := by obtain rfl | rfl := hoct <;> decide
  have hlegal : playLegal (BitVec.ofNat 4 n.val) oct = true :=
    (playLegal_eq_true_iff ..).2 ⟨by rw [scaleCode_toNat]; omega, hsounds.2⟩
  exact exec_play_of_voice hlegal harmed hidle (noteVoice_of_sounds hsounds.1 hdiv hreps)

/-- Settles O9: a no-op note loads no voice, and PLAY without a voice records PLAYST and sets SYN_DONE. -/
theorem silentPlayOnlyRecords : Obligations.SilentPlayOnlyRecords := by
  unfold Obligations.SilentPlayOnlyRecords
  intro s note oct durMs hnote hoct harmed hidle hnoop
  exact exec_play_of_noVoice ((playLegal_eq_true_iff ..).2 ⟨hnote, hoct⟩) harmed hidle
    ((noteVoice_eq_none_iff oct durMs hnote).2 hnoop)

/-- Settles O10, by the first check of PLAY that fails. -/
theorem playRefusals : Obligations.PlayRefusals := by
  unfold Obligations.PlayRefusals
  intro s note oct durMs
  refine ⟨fun hill => ?_, fun hnote hoct hf => ?_, fun hnote hoct harmed hact => ?_⟩
  · exact exec_play_of_illegal ((playLegal_eq_false_iff ..).2 hill) durMs s
  · exact exec_play_of_firing ((playLegal_eq_true_iff ..).2 ⟨hnote, hoct⟩) hf durMs
  · exact exec_play_of_busy ((playLegal_eq_true_iff ..).2 ⟨hnote, hoct⟩) harmed hact durMs

/-! ### The value of a sample (R92) -/

/-- The divisor of a level that sounds (R13). -/
theorem VolLevel.code_toNat {div : VolLevel} (h : div ≠ .mute) : div.code.toNat = if div = .loud then 1 else 2 := by
  cases div with
  | mute => exact absurd rfl h
  | loud => rfl
  | soft => rfl

/-- On the domain of R92 a sample is the clamped integer: its 16 bits hold every value of a DAC of a valid build. -/
theorem sample_eq_sampleInt {p : Params} (hv : p.Valid) {i : BitVec 7} (hi : i.toNat < 100) {div : VolLevel}
    (hdiv : div ≠ .mute) : ((sample p i div).toNat : Int) = sampleInt p ⟨i.toNat, hi⟩ div.code.toNat := by
  obtain ⟨-, -, -, -, -, -, -, hw, -⟩ := hv
  have hpos : (0 : Int) < 2 ^ p.dacW := by positivity
  have hwidth : (2 : Int) ^ p.dacW ≤ 2 ^ 16 := pow_le_pow_right₀ (by norm_num) hw
  have hbounds : 0 ≤ sampleInt p ⟨i.toNat, hi⟩ div.code.toNat ∧
      sampleInt p ⟨i.toNat, hi⟩ div.code.toNat ≤ 2 ^ p.dacW - 1 :=
    clamp_bounds (by omega)
  rw [sample, dif_pos ⟨hi, hdiv⟩, BitVec.toNat_ofNat, Nat.mod_eq_of_lt (by omega), Int.toNat_of_nonneg hbounds.1]

/-- The entries of the reference table (R93), whole and halved. -/
theorem lutReference_bounds : ∀ i : Fin 100,
    (-2047 ≤ (lutReference[i]).toInt ∧ (lutReference[i]).toInt ≤ 2047) ∧
    -1023 ≤ Int.tdiv (lutReference[i]).toInt 2 ∧ Int.tdiv (lutReference[i]).toInt 2 ≤ 1023 := by
  decide

theorem reference_valid : Params.reference.Valid := by decide

/-- At the reference parameters no sample is clamped (R92). -/
theorem sample_reference (i : Fin 100) {div : VolLevel} (hdiv : div ≠ .mute) :
    ((sample Params.reference (BitVec.ofNat 7 i.val) div).toNat : Int) =
      2048 + Int.tdiv (lutReference[i]).toInt (if div = .loud then 1 else 2) := by
  have hidx : (BitVec.ofNat 7 i.val).toNat = i.val := by rw [BitVec.toNat_ofNat]; omega
  have hlt : (BitVec.ofNat 7 i.val).toNat < 100 := hidx.trans_lt i.isLt
  have hfin : (⟨(BitVec.ofNat 7 i.val).toNat, hlt⟩ : Fin 100) = i := Fin.ext hidx
  have hint : sampleInt Params.reference i div.code.toNat =
      clamp (2048 + Int.tdiv (lutReference[i]).toInt div.code.toNat) 0 4095 := rfl
  obtain ⟨⟨hlo, hhi⟩, hlo2, hhi2⟩ := lutReference_bounds i
  rw [sample_eq_sampleInt reference_valid hlt hdiv, hfin, hint, VolLevel.code_toNat hdiv, clamp]
  split
  · rw [Nat.cast_one, Int.tdiv_one]; omega
  · rw [Nat.cast_ofNat]; omega

/-- Settles O45: R92's clamp for every build, and the bounds of the reference table for the reference build. -/
theorem sampleIsClampedScaledAmplitude : Obligations.SampleIsClampedScaledAmplitude := by
  unfold Obligations.SampleIsClampedScaledAmplitude
  refine ⟨fun p i hi div hv hdiv => ?_, fun i => ?_⟩
  · rw [sample_eq_sampleInt hv hi hdiv, sampleInt, clamp, VolLevel.code_toNat hdiv]
    split <;> rfl
  · have hloud := sample_reference i (div := .loud) (by decide)
    have hsoft := sample_reference i (div := .soft) (by decide)
    have hbounds := lutReference_bounds i
    simp only [if_true, reduceCtorEq, if_false, Int.tdiv_one] at hloud hsoft
    omega

end Sys2Proof.Machine
end

/-! PROOFS. The voices over runs: the audio output of a cycle, the slot a voice has reached n cycles after its load, both
voices over runs that let them play, muted runs, and the statements on them. -/

section
namespace Sys2Proof.Machine

/-! ### The audio output of a cycle (R88 to R90) -/

/-- DAC_OUT and DAC_WE after a cycle (R88 to R90), in the words of the rules; both voices write in no reachable state. -/
theorem nextDac_eq (s : State) :
    s.nextDac =
      if s.mv.act = true ∧ s.mv.wait = 0#16 ∧ s.mv.reps ≠ 0#32 then { out := sample s.cfg s.mv.idx s.mv.div, we := true }
      else if s.fv.act = true ∧ s.seq.st = .armed ∧ s.fv.wait = 0#16 ∧ s.fv.reps ≠ 0#32 then
        { out := sample s.cfg s.fv.idx s.fv.div, we := true }
      else { out := s.dac.out, we := false } := by
  simp only [State.nextDac, State.mvSteps, State.fvSteps, Voice.writes, Bool.and_eq_true, decide_eq_true_eq, and_assoc]

/-- Settles O46: while ARMED MV is idle, by the invariant, so the sample of a cycle is that of the voice that writes one. -/
theorem dacChangesOnlyBySamples : Obligations.DacChangesOnlyBySamples := by
  unfold Obligations.DacChangesOnlyBySamples
  intro s hs hr
  obtain ⟨hv, -, -, hmelody, -⟩ := s.inv_iff.1 hs
  obtain ⟨b, hb⟩ := busAccess_total s.input s
  refine ⟨_, step_live hv hr hb, ?_⟩
  rw [State.endCycle_dac, unitsCycle_dac, nextDac_eq]
  refine ⟨fun hact harmed hwait hreps => ?_, fun hact hwait hreps => ?_, fun hfv hmv => ?_⟩
  · obtain ⟨-, -, -, -, hidle⟩ := (melodyInv_iff_of_armed harmed).1 hmelody
    rw [if_neg (by simp [hidle]), if_pos ⟨hact, harmed, hwait, hreps⟩]
  · exact if_pos ⟨hact, hwait, hreps⟩
  · rw [if_neg hmv, if_neg hfv]

/-- The audio output after a cycle in which w is the one voice that steps. -/
def Voice.drive (p : Params) (w : Voice) (d : AudioOut) : AudioOut :=
  if w.writes then { out := sample p w.idx w.div, we := true } else { out := d.out, we := false }

theorem nextDac_of_fv_alone {s : State} (harmed : s.seq.st = .armed) (hact : s.fv.act = true) (hidle : s.mv.act = false) :
    s.nextDac = s.fv.drive s.cfg s.dac := by
  simp [State.nextDac, Voice.drive, State.mvSteps, State.fvSteps, harmed, hact, hidle]

theorem nextDac_of_mv_alone {s : State} (hf : s.seq.st = .firing) (hact : s.mv.act = true) :
    s.nextDac = s.mv.drive s.cfg s.dac := by
  simp [State.nextDac, Voice.drive, State.mvSteps, State.fvSteps, hf, hact]

/-! ### Where a voice stands in its note (R86 to R88)

A freshly loaded voice with R repeats and period P starts slot k in the cycle that follows k P cycles, and ends in the one
that follows 100 R P cycles. -/

/-- The voice is as VoiceLoad leaves it (R87): it plays, at the start of a table walk, in slots of a cycle or more. -/
structure Voice.Fresh (v : Voice) : Prop where
  act : v.act = true
  idx : v.idx = 0#7
  wait : v.wait = 0#16
  per : 1 ≤ v.per.toNat

/-- The cycles in which a voice plays its table walks: 100 R P. -/
def Voice.playCycles (v : Voice) : Nat := 100 * v.reps.toNat * v.per.toNat

/-- The freshly loaded voice v, r cycles before its slot k starts. -/
def Voice.beforeSlot (v : Voice) (k r : Nat) : Voice :=
  { v with
    idx := BitVec.ofNat 7 (k % 100)
    reps := BitVec.ofNat 32 (v.reps.toNat - k / 100)
    wait := BitVec.ofNat 16 r }

theorem Voice.beforeSlot_zero {v : Voice} (hidx : v.idx = 0#7) (hwait : v.wait = 0#16) : v.beforeSlot 0 0 = v := by
  simp [beforeSlot, ← hidx, ← hwait]

theorem Voice.beforeSlot_wait (v : Voice) (k : Nat) {r : Nat} (hr : r < v.per.toNat) :
    (v.beforeSlot k r).wait = 0#16 ↔ r = 0 := by
  have hper := v.per.isLt
  rw [beforeSlot, ← BitVec.toNat_inj, BitVec.toNat_ofNat, BitVec.toNat_ofNat]
  omega

theorem Voice.beforeSlot_reps (v : Voice) {k r : Nat} : (v.beforeSlot k r).reps = 0#32 ↔ 100 * v.reps.toNat ≤ k := by
  have hreps := v.reps.isLt
  rw [beforeSlot, ← BitVec.toNat_inj, BitVec.toNat_ofNat, BitVec.toNat_ofNat]
  omega

/-- Between the starts of two slots the voice waits. -/
theorem Voice.step_beforeSlot_succ (v : Voice) (k : Nat) {r : Nat} (hr : r + 1 < v.per.toNat) :
    (v.beforeSlot k (r + 1)).step = v.beforeSlot k r := by
  have hwait : (v.beforeSlot k (r + 1)).wait ≠ 0#16 := fun h => absurd ((v.beforeSlot_wait k hr).1 h) (by omega)
  obtain ⟨-, -, -, h⟩ := (v.beforeSlot k (r + 1)).stepsTo_step
  have hdec : BitVec.ofNat 16 (r + 1) - 1#16 = BitVec.ofNat 16 r := by rw [BitVec.ofNat_add, BitVec.add_sub_cancel]
  rw [h hwait]
  simp only [beforeSlot, hdec]

/-- The start of a slot, the last one of a table walk or another one. -/
theorem Voice.step_beforeSlot_zero {v : Voice} {k : Nat} (hper : 1 ≤ v.per.toNat) (hk : k < 100 * v.reps.toNat) :
    (v.beforeSlot k 0).step = v.beforeSlot (k + 1) (v.per.toNat - 1) := by
  have hwait := (v.beforeSlot_wait k hper).2 rfl
  have hreps : (v.beforeSlot k 0).reps ≠ 0#32 := fun h => absurd (v.beforeSlot_reps.1 h) (by omega)
  have hR := v.reps.isLt
  have hP : v.per - 1#16 = BitVec.ofNat 16 (v.per.toNat - 1) := by bv_omega
  obtain ⟨-, hlast, hnext, -⟩ := (v.beforeSlot k 0).stepsTo_step
  have hidx : (v.beforeSlot k 0).idx = 99#7 ↔ k % 100 = 99 := by
    rw [beforeSlot, ← BitVec.toNat_inj, BitVec.toNat_ofNat, BitVec.toNat_ofNat]
    omega
  by_cases h99 : k % 100 = 99
  · have hdone : BitVec.ofNat 32 (v.reps.toNat - k / 100) - 1#32 = BitVec.ofNat 32 (v.reps.toNat - (k + 1) / 100) := by
      bv_omega
    have hwalk : (k + 1) % 100 = 0 := by omega
    rw [hlast hwait hreps (hidx.2 h99)]
    simp only [beforeSlot, hP, hdone, hwalk]
  · have hsame : (k + 1) / 100 = k / 100 := by omega
    have hwalk : (k + 1) % 100 = k % 100 + 1 := by omega
    rw [hnext hwait hreps (mt hidx.1 h99)]
    simp only [beforeSlot, hP, hsame, hwalk, BitVec.ofNat_add]

/-- A cycle is the first one of at most one slot. -/
theorem slot_unique {P k l j : Nat} (hj : j < P) (h : k * P = l * P + j) : k = l ∧ j = 0 := by
  have hrem : j = 0 := calc
    j = (l * P + j) % P := by rw [Nat.mul_add_mod_self_right, Nat.mod_eq_of_lt hj]
    _ = 0 := by rw [← h, Nat.mul_mod_left]
  subst hrem
  exact ⟨Nat.eq_of_mul_eq_mul_right hj h, rfl⟩

/-- w is the freshly loaded voice v n cycles later, in slots of v's period. -/
def Voice.AtCycle (v : Voice) (n : Nat) (w : Voice) : Prop :=
  ∃ k r, r < v.per.toNat ∧ n + r = k * v.per.toNat ∧ w = v.beforeSlot k r

theorem Voice.Fresh.atCycle_zero {v : Voice} (h : v.Fresh) : v.AtCycle 0 v :=
  ⟨0, 0, h.per, by simp, (beforeSlot_zero h.idx h.wait).symm⟩

theorem Voice.AtCycle.act {v w : Voice} {n : Nat} (h : v.AtCycle n w) : w.act = v.act := by
  obtain ⟨k, r, -, -, rfl⟩ := h
  rfl

/-- Before its last table walk ends each step takes a voice to the next cycle of its note. -/
theorem Voice.AtCycle.step {v w : Voice} {n : Nat} (h : v.AtCycle n w) (hn : n < v.playCycles) :
    v.AtCycle (n + 1) w.step := by
  obtain ⟨k, r, hr, hpos, rfl⟩ := h
  cases r with
  | zero =>
    rw [Nat.add_zero] at hpos
    have hk : k < 100 * v.reps.toNat := Nat.lt_of_mul_lt_mul_right (a := v.per.toNat) (hpos ▸ hn)
    exact ⟨k + 1, v.per.toNat - 1, by omega, by rw [Nat.succ_mul]; omega, step_beforeSlot_zero hr hk⟩
  | succ r => exact ⟨k, r, by omega, by omega, v.step_beforeSlot_succ k hr⟩

/-- After 100 R P cycles WAIT, IDX and REPS are 0. -/
theorem Voice.AtCycle.eq_of_playCycles {v w : Voice} (h : v.AtCycle v.playCycles w) :
    w = { v with idx := 0#7, reps := 0#32, wait := 0#16 } := by
  obtain ⟨k, r, hr, hpos, rfl⟩ := h
  obtain ⟨rfl, rfl⟩ := slot_unique hr hpos.symm
  simp [beforeSlot]

/-- d is the audio output n cycles after v, as a sole voice, began to play: the sample of the slot begun last, with DAC_WE = 1
in the first cycle of the slot. -/
def Voice.OutputAt (p : Params) (v : Voice) (n : Nat) (d : AudioOut) : Prop :=
  ∀ k j, j < v.per.toNat → n = k * v.per.toNat + j + 1 →
    d = { out := sample p (BitVec.ofNat 7 (k % 100)) v.div, we := decide (j = 0) }

/-- Each cycle of the note is followed by the next one in the audio output too. -/
theorem Voice.OutputAt.drive {p : Params} {v w : Voice} {n : Nat} {d : AudioOut} (h : v.OutputAt p n d)
    (hw : v.AtCycle n w) (hn : n < v.playCycles) : v.OutputAt p (n + 1) (w.drive p d) := by
  obtain ⟨k, r, hr, hpos, rfl⟩ := hw
  intro l j hj hnext
  have hstart : n = l * v.per.toNat + j := by omega
  cases r with
  | zero =>
    rw [Nat.add_zero] at hpos
    have hk : k < 100 * v.reps.toNat := Nat.lt_of_mul_lt_mul_right (a := v.per.toNat) (hpos ▸ hn)
    have hwrites : (v.beforeSlot k 0).writes = true := by
      simp [writes, beforeSlot_wait, beforeSlot_reps, hr, hk]
    obtain ⟨rfl, rfl⟩ := slot_unique hj (hpos.symm.trans hstart)
    rw [Voice.drive, if_pos hwrites]
    rfl
  | succ r =>
    have hwaits : (v.beforeSlot k (r + 1)).writes = false := by
      simp [writes, v.beforeSlot_wait k hr]
    cases j with
    | zero =>
      obtain ⟨-, hzero⟩ := slot_unique hr (hpos.symm.trans (by rw [hstart, Nat.add_zero]))
      cases hzero
    | succ j =>
      rw [Voice.drive, hwaits, h l j (by omega) hstart]
      simp

theorem Voice.OutputAt.zero (p : Params) (v : Voice) (d : AudioOut) : v.OutputAt p 0 d := by
  intro k j _ h
  omega

/-! ### A cycle of a playing voice -/

/-- A live ARMED cycle with FV playing, whatever the host and the other units do. -/
theorem stepOn_fv_playing {i : CycleInput} {s : State} (hv : s.cfg.Valid) (hr : i.live) (harmed : s.seq.st = .armed)
    (hact : s.fv.act = true) :
    ∃ t, stepOn i s = .next t ∧ t.cfg = s.cfg ∧ t.fv = s.fv.step ∧ t.dac = s.nextDac ∧
      (s.mv.act = false → t.mv = s.mv) ∧ (s.fv.wait = 0#16 → s.fv.reps = 0#32 → t.flag .synDone = true) := by
  obtain ⟨b, hb⟩ := busAccess_total i s
  obtain ⟨hcfg, -, -, -, hmv, -⟩ := busAccess_frame hb
  refine ⟨_, stepOn_of_busAccess hv hr hb, ?_, ?_, unitsCycle_dac i s b, fun hidle => ?_, fun hwait hreps => ?_⟩
  · simpa using hcfg
  · simp [State.fvSteps, harmed, hact]
  · simp [unitsCycle_mv, hidle, harmed, hmv]
  · exact (unitsCycle_flag i s b .synDone).2 (.inr ⟨harmed, hact, hwait, hreps⟩)

/-- A live FIRING cycle with MV playing, whatever the host and the other units do. -/
theorem stepOn_mv_playing {i : CycleInput} {s : State} (hv : s.cfg.Valid) (hr : i.live) (hf : s.seq.st = .firing)
    (hact : s.mv.act = true) :
    ∃ t, stepOn i s = .next t ∧ t.cfg = s.cfg ∧ t.mv = s.mv.step ∧ t.dac = s.nextDac ∧ t.seq = s.seq := by
  obtain ⟨b, hb⟩ := busAccess_total i s
  obtain ⟨hcfg, -⟩ := busAccess_frame hb
  refine ⟨_, stepOn_of_busAccess hv hr hb, ?_, ?_, unitsCycle_dac i s b, ?_⟩
  · simpa using hcfg
  · simp [unitsCycle_mv, hact]
  · exact (unitsCycle_seq_play_of_melody i b hf hact).1.trans (busAccess_seq_of_firing hb hf)

/-! ### Runs -/

/-- A run along which each cycle takes a condition from its index to the next one, up to index N. -/
theorem runOn_of_stepwise {I : Nat → State → Prop} {C : State → CycleInput → Prop} {L : CycleInput → Prop} {N n : Nat}
    {is : List CycleInput} {s : State} (h0 : I n s) (hC : EachCycle C is s) (hL : ∀ i ∈ is, L i) (hn : n + is.length ≤ N)
    (hstep : ∀ m w i, m < N → I m w → C w i → L i → ∃ t, stepOn i w = .next t ∧ I (m + 1) t) :
    ∃ t, runOn is s = .next t ∧ I (n + is.length) t := by
  induction is generalizing n s with
  | nil => exact ⟨s, rfl, h0⟩
  | cons i is ih =>
    rw [List.length_cons] at hn ⊢
    obtain ⟨t, ht, hI⟩ := hstep n s i (by omega) h0 hC.1 (hL i (by simp))
    obtain ⟨u, hu, hI'⟩ := ih hI (hC.2 t ht) (fun j hj => hL j (by simp [hj])) (by omega)
    exact ⟨u, by rw [runOn_cons_next ht, hu], by rwa [Nat.add_right_comm, Nat.add_assoc] at hI'⟩

theorem eachCycle_true (is : List CycleInput) (s : State) : EachCycle (fun _ _ => True) is s :=
  eachCycle_of_kept (I := fun _ => True) trivial fun _ _ _ _ _ _ => trivial

/-- FV along a live run that stays ARMED, up to the end of its table walks; the audio output too if MV is idle. -/
theorem runOn_fv_playing {is : List CycleInput} {s : State} (hv : s.cfg.Valid) (hfresh : s.fv.Fresh)
    (hlive : ∀ i ∈ is, i.live) (harmed : EachCycle (fun w _ => w.seq.st = .armed) is s)
    (hlen : is.length ≤ s.fv.playCycles) :
    ∃ t, runOn is s = .next t ∧ t.cfg = s.cfg ∧ s.fv.AtCycle is.length t.fv ∧
      (s.mv.act = false → s.fv.OutputAt s.cfg is.length t.dac) := by
  have hrun := runOn_of_stepwise (N := s.fv.playCycles) (n := 0)
    (I := fun n w => w.cfg = s.cfg ∧ s.fv.AtCycle n w.fv ∧
      (s.mv.act = false → w.mv.act = false ∧ s.fv.OutputAt s.cfg n w.dac))
    ⟨rfl, hfresh.atCycle_zero, fun hidle => ⟨hidle, .zero _ _ _⟩⟩ harmed hlive (by omega) ?_
  · obtain ⟨t, ht, hcfg, hat, hout⟩ := hrun
    rw [Nat.zero_add] at hat hout
    exact ⟨t, ht, hcfg, hat, fun hidle => (hout hidle).2⟩
  · rintro n w i hn ⟨hcfg, hat, hout⟩ hst hr
    have hact := hat.act.trans hfresh.act
    obtain ⟨t, ht, htcfg, hfv, hdac, hkeep, -⟩ := stepOn_fv_playing (hcfg ▸ hv) hr hst hact
    refine ⟨t, ht, htcfg.trans hcfg, hfv ▸ hat.step hn, fun hidle => ?_⟩
    obtain ⟨hmv, hout⟩ := hout hidle
    rw [nextDac_of_fv_alone hst hact hmv, hcfg] at hdac
    exact ⟨by rw [hkeep hmv, hmv], hdac ▸ hout.drive hat hn⟩

/-- MV and the audio output along a live run from FIRING, up to the end of MV's table walks: the sequencer waits (R103). -/
theorem runOn_mv_playing {is : List CycleInput} {s : State} (hv : s.cfg.Valid) (hfresh : s.mv.Fresh)
    (hf : s.seq.st = .firing) (hlive : ∀ i ∈ is, i.live) (hlen : is.length ≤ s.mv.playCycles) :
    ∃ t, runOn is s = .next t ∧ t.seq = s.seq ∧ s.mv.AtCycle is.length t.mv ∧ s.mv.OutputAt s.cfg is.length t.dac := by
  have hrun := runOn_of_stepwise (N := s.mv.playCycles) (n := 0)
    (I := fun n w => w.cfg = s.cfg ∧ w.seq = s.seq ∧ s.mv.AtCycle n w.mv ∧ s.mv.OutputAt s.cfg n w.dac)
    ⟨rfl, rfl, hfresh.atCycle_zero, .zero _ _ _⟩ (eachCycle_true is s) hlive (by omega) ?_
  · obtain ⟨t, ht, -, hseq, hat⟩ := hrun
    rw [Nat.zero_add] at hat
    exact ⟨t, ht, hseq, hat⟩
  · rintro n w i hn ⟨hcfg, hseq, hat, hout⟩ - hr
    have hst : w.seq.st = .firing := hseq ▸ hf
    have hact := hat.act.trans hfresh.act
    obtain ⟨t, ht, htcfg, hmv, hdac, hkeep⟩ := stepOn_mv_playing (hcfg ▸ hv) hr hst hact
    rw [nextDac_of_mv_alone hst hact, hcfg] at hdac
    exact ⟨t, ht, htcfg.trans hcfg, hkeep.trans hseq, hmv ▸ hat.step hn, hdac ▸ hout.drive hat hn⟩

/-- Settles O43: after 100 R P cycles IDX, WAIT and REPS are 0, and the next ARMED cycle ends the note. -/
theorem foregroundNoteLastsItsTime : Obligations.ForegroundNoteLastsItsTime := by
  unfold Obligations.ForegroundNoteLastsItsTime
  intro s is hv hact hidx hwait _ hper hlive harmed hlen
  have hfresh : s.fv.Fresh := ⟨hact, hidx, hwait, hper⟩
  obtain hle | hend := Nat.le_or_eq_of_le_succ hlen
  · obtain ⟨t, ht, -, hat, -⟩ := runOn_fv_playing hv hfresh hlive harmed hle
    exact ⟨t, ht, fun _ => hat.act.trans hact, fun h => by omega⟩
  · obtain rfl | ⟨is, last, rfl⟩ := List.eq_nil_or_concat' is
    · cases hend
    have hlen' : is.length = s.fv.playCycles := by simpa [Voice.playCycles] using hend
    obtain ⟨u, hu, hcfg, hat, -⟩ := runOn_fv_playing hv hfresh (fun i hi => hlive i (by simp [hi])) (eachCycle_prefix harmed)
      hlen'.le
    obtain ⟨-, hst, -⟩ := (eachCycle_append hu).1 harmed
    have hfv := (hlen' ▸ hat).eq_of_playCycles
    obtain ⟨t, ht, -, htfv, -, -, hdone⟩ :=
      stepOn_fv_playing (hcfg ▸ hv) (hlive last (by simp)) hst (hat.act.trans hact)
    refine ⟨t, by rw [runOn_append hu, runOn_cons_next ht, runOn_nil], fun h => by omega, fun _ => ⟨?_, ?_⟩⟩
    · obtain ⟨hends, -⟩ := u.fv.stepsTo_step
      rw [htfv, hends (by rw [hfv]) (by rw [hfv]), hfv, ← hidx, ← hwait]
    · exact hdone (by rw [hfv]) (by rw [hfv])

/-- Slots 0 to 100 R - 1 lie within the cycles of the note. -/
theorem Voice.slot_le_playCycles {v : Voice} {k j : Nat} (hk : k < 100 * v.reps.toNat) (hj : j < v.per.toNat) :
    k * v.per.toNat + j + 1 ≤ v.playCycles := calc
  k * v.per.toNat + j + 1 ≤ (k + 1) * v.per.toNat := by rw [Nat.succ_mul]; omega
  _ ≤ v.playCycles := Nat.mul_le_mul_right _ hk

/-- Settles O44: both voices' audio output n cycles after the load, at n = k P + j + 1. -/
theorem voiceWritesOneSamplePerPeriod : Obligations.VoiceWritesOneSamplePerPeriod := by
  unfold Obligations.VoiceWritesOneSamplePerPeriod
  intro s is k j hv hlive
  refine ⟨fun hact hidx hwait hidle harmed hk hj hlen => ?_, fun hact hidx hwait hf hk hj hlen => ?_⟩
  · have hfresh : s.fv.Fresh := ⟨hact, hidx, hwait, by omega⟩
    obtain ⟨t, ht, -, hat, hout⟩ := runOn_fv_playing hv hfresh hlive harmed (hlen ▸ Voice.slot_le_playCycles hk hj)
    exact ⟨t, ht, hat.act.trans hact, hout hidle k j hj hlen⟩
  · have hfresh : s.mv.Fresh := ⟨hact, hidx, hwait, by omega⟩
    obtain ⟨t, ht, hseq, hat, hout⟩ := runOn_mv_playing hv hfresh hf hlive (hlen ▸ Voice.slot_le_playCycles hk hj)
    exact ⟨t, ht, hat.act.trans hact, hseq, hout k j hj hlen⟩

/-! ### Muted runs (R83, R103) -/

/-- Nothing can sound: the volume is MUTE with no ADC event on its way, no voice plays, and the audio output holds d. -/
structure State.Muted (d : AudioOut) (s : State) : Prop where
  vlevel : s.adc.vlevel = .mute
  pend : s.adc.pend = false
  fv : s.fv.act = false
  mv : s.mv.act = false
  dac : s.dac = d
  we : d.we = false

theorem noteVoice_mute (p : Params) (note : NoteCode) (oct : OctCode) (durMs : BitVec 16) :
    noteVoice p note oct .mute durMs = none := by
  simp [noteVoice, silent]

/-- A live cycle without an ADC strobe lets nothing sound: no PLAY and no melody note loads a voice at MUTE. -/
theorem stepOn_of_muted {d : AudioOut} {i : CycleInput} {s : State} (h : s.Muted d) (hv : s.cfg.Valid) (hr : i.live)
    (hstrobe : i.adcDone = false) : ∃ t, stepOn i s = .next t ∧ t.cfg = s.cfg ∧ t.Muted d := by
  obtain ⟨b, hb⟩ := busAccess_total i s
  obtain ⟨hcfg, -, -, -, hbmv, -⟩ := busAccess_frame hb
  have hplay : b.fv = s.fv := busAccess_fv_of_not_playSounds hb fun _ _ _ ⟨_, _, hdiv, _⟩ => hdiv h.vlevel
  have hnote : s.melodyVoice = none := by rw [State.melodyVoice, h.vlevel, noteVoice_mute]
  obtain ⟨-, hlevel⟩ := VolSampler.tick_of_not_pend h.pend s.cfg i.adcDone i.adcData
  have hfv : (unitsCycle i s b).fv.act = false := by rw [unitsCycle_fv_of_idle i b h.fv, hplay, h.fv]
  have hdac : (unitsCycle i s b).dac = d := by
    rw [unitsCycle_dac, nextDac_eq, if_neg (by simp [h.mv]), if_neg (by simp [h.fv]), h.dac, ← h.we]
  refine ⟨_, stepOn_of_busAccess hv hr hb, by simpa using hcfg, ?_, ?_, hfv, ?_, hdac, h.we⟩
  · simpa [hlevel] using h.vlevel
  · simpa [VolSampler.tick_pend] using hstrobe
  · simp [unitsCycle_mv, hnote, hbmv, h.mv]

/-- Settles O47: a muted state stays muted along the run. -/
theorem muteWritesNoSample : Obligations.MuteWritesNoSample := by
  unfold Obligations.MuteWritesNoSample
  intro s is hv hlevel hpend hfv hmv hwe hin
  have hmuted : s.Muted s.dac := ⟨hlevel, hpend, hfv, hmv, rfl, hwe⟩
  obtain ⟨t, ht, -, h⟩ := runOn_of_stepwise (N := is.length) (n := 0) (I := fun _ w => w.cfg = s.cfg ∧ w.Muted s.dac)
    ⟨rfl, hmuted⟩ (eachCycle_true is s) hin (by omega) fun _ w i _ ⟨hcfg, hw⟩ _ ⟨hr, hstrobe⟩ => by
      obtain ⟨t, ht, htcfg, h⟩ := stepOn_of_muted hw (hcfg ▸ hv) hr hstrobe
      exact ⟨t, ht, htcfg.trans hcfg, h⟩
  exact ⟨t, ht, h.dac, h.fv, h.mv⟩

/-! ### FV along a melody (R89, R129) -/

/-- A live FIRING cycle freezes FV. -/
theorem stepOn_fv_of_firing {i : CycleInput} {s t : State} (hr : i.live) (hf : s.seq.st = .firing)
    (h : stepOn i s = .next t) : t.fv = s.fv := by
  obtain ⟨-, ⟨hrst, -⟩ | ⟨b, -, hb, rfl⟩⟩ := step_next_cases (s := s.withInput i) h
  · exact absurd (hr.symm.trans hrst) (by decide)
  · exact unitsCycle_fv_of_firing hb hf

theorem runOn_cons_eq_next {i : CycleInput} {is : List CycleInput} {s t : State} (h : runOn (i :: is) s = .next t) :
    ∃ u, stepOn i s = .next u ∧ runOn is u = .next t := by
  unfold runOn at h
  split at h
  next u hu => exact ⟨u, hu, h⟩
  all_goals cases h

/-- Settles O57: each cycle of the run is FIRING and freezes FV, the exit cycle too. -/
theorem foregroundResumesAfterMelody : Obligations.ForegroundResumesAfterMelody := by
  unfold Obligations.ForegroundResumesAfterMelody
  intro s t is hlive hfiring hrun
  induction is generalizing s with
  | nil => cases hrun; rfl
  | cons i is ih =>
    obtain ⟨u, hu, hrest⟩ := runOn_cons_eq_next hrun
    have hkept : u.fv = s.fv := stepOn_fv_of_firing (hlive i (by simp)) (hfiring 0 s (by simp) rfl) hu
    refine (ih u (fun j hj => hlive j (by simp [hj])) (fun k w hk hw => ?_) hrest).trans hkept
    exact hfiring (k + 1) w (by simpa using hk) (by rw [List.take_succ_cons, runOn_cons_next hu, hw])

end Sys2Proof.Machine
end

/-! PROOFS. The IdleSequencer: REARM, the rule of the sequencer in each cycle, the countdown to the melody, the notes of the
melody and its length, the way back to PLAYST, and the statements on them. -/

section
namespace Sys2Proof.Machine

/-! ### The REARM command (R100) -/

theorem exec_rearm_of_armed {s : State} (harmed : s.seq.st = .armed) : exec .rearm s = .next s.reloadIdle := by
  simp [exec, execRearm, harmed]

theorem exec_rearm_of_firing {s : State} (hf : s.seq.st = .firing) : exec .rearm s = .next (s.raise .errLock) :=
  if_pos hf

/-- Settles O11: the two answers of the command. -/
theorem rearmReloadsIdleCounter : Obligations.RearmReloadsIdleCounter := by
  unfold Obligations.RearmReloadsIdleCounter
  exact fun s => ⟨exec_rearm_of_armed, exec_rearm_of_firing⟩

/-- While ARMED a cycle in which the host writes REARM reloads the timer. -/
theorem busAccess_of_rearms {i : CycleInput} {s : State} (hre : i.rearms = true) (harmed : s.seq.st = .armed) :
    busAccess i s = .next s.reloadIdle := by
  have hcmd : cmdWord i = some 0x00000003#32 := by simpa [CycleInput.rearms] using hre
  rw [busAccess_of_cmdWord hcmd, cmdWrite_of_decode ((decode_eq_rearm_iff _).2 rfl), exec_rearm_of_armed harmed]

/-- Without a REARM the bus access of an ARMED cycle keeps the sequencer. -/
theorem busAccess_seq_of_not_rearms {i : CycleInput} {s b : State} (hb : busAccess i s = .next b)
    (harmed : s.seq.st = .armed) (hre : i.rearms = false) : b.seq = s.seq := by
  rw [busAccess_seq hb, rearmAccepted_of_armed i harmed, hre]
  rfl

/-! ### PLAYST after the bus access (R82) -/

/-- A PLAY that is accepted decodes from the cycle's CMD word, while ARMED with FV idle (R81). -/
theorem acceptedPlay_eq_some_iff {i : CycleInput} {s : State} {ps : PlayState} :
    acceptedPlay i s = some ps ↔ ∃ v durMs, cmdWord i = some v ∧ decode v = .ok (.play ps.note ps.oct durMs) ∧
      s.seq.st = .armed ∧ s.fv.act = false := by
  constructor
  · intro h
    unfold acceptedPlay at h
    split at h
    · cases h
    · split at h
      next v hcmd _ note oct durMs hdec =>
        split at h
        next hacc => cases h; exact ⟨v, durMs, hcmd, hdec, hacc⟩
        next => cases h
      next => cases h
  · rintro ⟨v, durMs, hcmd, hdec, harmed, hidle⟩
    exact acceptedPlay_eq_some hcmd hdec harmed hidle

/-- PLAYST after a cycle's bus access: that of an accepted PLAY, else as it was. -/
theorem busAccess_play {i : CycleInput} {s b : State} (hb : busAccess i s = .next b) :
    b.play = (acceptedPlay i s).getD s.play := by
  cases hacc : acceptedPlay i s with
  | none =>
    by_contra hne
    rw [acceptedPlay_of_play_ne hb hne] at hacc
    cases hacc
  | some ps =>
    obtain ⟨v, durMs, hcmd, hdec, harmed, hidle⟩ := acceptedPlay_eq_some_iff.1 hacc
    obtain ⟨hlegal, -⟩ := (decode_eq_play_iff_toNat ..).1 hdec
    obtain ⟨b', hb', hplay, -⟩ := exec_play_accepted durMs hlegal harmed hidle
    rw [busAccess_of_cmdWord hcmd, cmdWrite_of_decode hdec, hb'] at hb
    cases hb
    exact hplay

/-! ### The sequencer's rule in a cycle (R100 to R104) -/

/-- What the sequencer's part of a cycle makes of the sequencer and PLAYST depends on these and the parameters alone. -/
theorem sequencerCycle_congr {r : Bool} {s t u : State} (hcfg : t.cfg = u.cfg) (hseq : t.seq = u.seq)
    (hplay : t.play = u.play) :
    (sequencerCycle r s t).seq = (sequencerCycle r s u).seq ∧ (sequencerCycle r s t).play = (sequencerCycle r s u).play := by
  simp only [sequencerCycle, nextNote_eq]
  repeat' split
  all_goals simp [hcfg, hseq, hplay]

/-- The sequencer and PLAYST after a cycle: the sequencer's rule, applied to what the bus access leaves. -/
theorem unitsCycle_seq_play (i : CycleInput) (s b : State) :
    (unitsCycle i s b).seq = (sequencerCycle (rearmAccepted i s) s b).seq ∧
      (unitsCycle i s b).play = (sequencerCycle (rearmAccepted i s) s b).play := by
  obtain ⟨u, hcfg, hseq, hplay, -, hseq', hplay', -⟩ := unitsCycle_sequencer i s b
  rw [hseq', hplay']
  exact sequencerCycle_congr hcfg hseq hplay

/-- R100: a REARM wins, the sequencer does nothing of its own. -/
theorem unitsCycle_of_rearms {i : CycleInput} {s b : State} (hb : busAccess i s = .next b) (harmed : s.seq.st = .armed)
    (hre : i.rearms = true) :
    (unitsCycle i s b).seq = { s.seq with idleCnt := s.cfg.idleTicks } ∧ (unitsCycle i s b).play = s.play := by
  have hrule : sequencerCycle (rearmAccepted i s) s b = b := by
    simp [sequencerCycle, harmed, rearmAccepted_of_armed, hre]
  obtain ⟨hseq, hplay⟩ := unitsCycle_seq_play i s b
  rw [busAccess_of_rearms hre harmed] at hb
  cases hb
  rw [hseq, hplay, hrule]
  exact ⟨rfl, rfl⟩

/-- R101: the countdown before the expiry cycle. -/
theorem unitsCycle_of_countdown {i : CycleInput} {s b : State} (hb : busAccess i s = .next b) (harmed : s.seq.st = .armed)
    (hre : i.rearms = false) (hcnt : 1 < s.seq.idleCnt.toNat) :
    (unitsCycle i s b).seq = { s.seq with idleCnt := s.seq.idleCnt - 1#32 } := by
  have hrule : sequencerCycle (rearmAccepted i s) s b = b.countIdle := by
    simp [sequencerCycle, harmed, rearmAccepted_of_armed, hre, hcnt.not_ge]
  obtain ⟨hseq, -⟩ := unitsCycle_seq_play i s b
  rw [hseq, hrule, State.countIdle_seq, busAccess_seq_of_not_rearms hb harmed hre]

/-- R101, R102: the expiry cycle, a PLAY of the same cycle counted first. -/
theorem unitsCycle_of_expiry {i : CycleInput} {s b : State} {ps : PlayState} (hb : busAccess i s = .next b)
    (harmed : s.seq.st = .armed) (hre : i.rearms = false) (hcnt : s.seq.idleCnt.toNat ≤ 1)
    (hps : ps = (acceptedPlay i s).getD s.play) :
    (unitsCycle i s b).seq = ⟨.firing, 0#32, 0#4, ps.note, ps.oct⟩ ∧ (unitsCycle i s b).play = ⟨ps.note, s.cfg.melOct⟩ ∧
      (unitsCycle i s b).flag .seqStart = true := by
  have hrule : sequencerCycle (rearmAccepted i s) s b = b.melodyEntry := by
    simp [sequencerCycle, harmed, rearmAccepted_of_armed, hre, hcnt]
  obtain ⟨hseq, hplay⟩ := unitsCycle_seq_play i s b
  obtain ⟨hcfg, -⟩ := busAccess_frame hb
  have hbplay : b.play = ps := (busAccess_play hb).trans hps.symm
  refine ⟨?_, ?_, (unitsCycle_flag ..).2 (.inr ⟨harmed, hcnt, hre⟩)⟩
  · rw [hseq, hrule, State.melodyEntry_seq, hbplay]
  · rw [hplay, hrule, State.melodyEntry_play, hbplay, hcfg]

/-- R103: a melody note cycle. -/
theorem unitsCycle_of_note {i : CycleInput} {s b : State} {n : Fin 8} (hb : busAccess i s = .next b)
    (hf : s.seq.st = .firing) (hidle : s.mv.act = false) (hidx : s.seq.melIdx = BitVec.ofNat 4 n.val) :
    (unitsCycle i s b).seq = { s.seq with melIdx := BitVec.ofNat 4 (n.val + 1) } ∧
      (unitsCycle i s b).play = { s.play with note := BitVec.ofNat 4 n.val } := by
  have hlt : s.seq.melIdx.toNat < 8 := by rw [hidx, scaleCode_toNat]; exact n.isLt
  have hrule : sequencerCycle (rearmAccepted i s) s b = s.nextNote b := by
    simp only [sequencerCycle, hf, hidle, hlt, Bool.false_eq_true, if_false, if_true]
  obtain ⟨hseq, hplay⟩ := unitsCycle_seq_play i s b
  rw [hseq, hplay, hrule, nextNote_eq]
  simp [busAccess_seq_of_firing hb hf, busAccess_play_of_firing hb hf, hidx, BitVec.ofNat_add]

/-- MV after a melody note cycle: loaded with the note if it sounds, else kept. -/
theorem unitsCycle_mv_of_note {i : CycleInput} {s b : State} {n : Fin 8} (hv : s.cfg.Valid) (hb : busAccess i s = .next b)
    (hf : s.seq.st = .firing) (hidle : s.mv.act = false) (hidx : s.seq.melIdx = BitVec.ofNat 4 n.val) :
    (unitsCycle i s b).mv =
      if s.adc.vlevel ≠ .mute ∧ 1 ≤ repsNat s.cfg n s.cfg.melOct s.cfg.melDurMs then
        loadedVoice s.cfg n s.cfg.melOct s.adc.vlevel s.cfg.melDurMs
      else s.mv := by
  have hlt : s.seq.melIdx.toNat < 8 := by rw [hidx, scaleCode_toNat]; exact n.isLt
  obtain ⟨-, -, -, -, hbmv, -⟩ := busAccess_frame hb
  rw [unitsCycle_mv, if_neg (by simp [hidle]), if_pos ⟨hf, hlt⟩, hbmv, State.melodyVoice, hidx,
    noteVoice_getD _ _ _ _ _ (melOct_ne_inactive hv)]

/-- R104: the melody exit cycle. -/
theorem unitsCycle_of_exit {i : CycleInput} {s b : State} (hb : busAccess i s = .next b) (hf : s.seq.st = .firing)
    (hidle : s.mv.act = false) (hidx : s.seq.melIdx = 8#4) :
    (unitsCycle i s b).seq = ⟨.armed, s.cfg.idleTicks, 0#4, s.seq.snapNote, s.seq.snapOct⟩ ∧
      (unitsCycle i s b).play = ⟨s.seq.snapNote, s.seq.snapOct⟩ ∧ (unitsCycle i s b).flag .seqDone = true := by
  have hrule : sequencerCycle (rearmAccepted i s) s b = b.melodyExit := by
    simp [sequencerCycle, hf, hidle, hidx]
  obtain ⟨hseq, hplay⟩ := unitsCycle_seq_play i s b
  obtain ⟨hcfg, -⟩ := busAccess_frame hb
  refine ⟨?_, ?_, (unitsCycle_flag ..).2 (.inr ⟨hf, hidle, hidx⟩)⟩
  · rw [hseq, hrule, State.melodyExit_seq, busAccess_seq_of_firing hb hf, hcfg]
  · rw [hplay, hrule, State.melodyExit_play, busAccess_seq_of_firing hb hf]

/-! ### The sequencer over one step -/

/-- Settles O51: the rule of the expiry cycle. -/
theorem expirySavesPlaybackState : Obligations.ExpirySavesPlaybackState := by
  unfold Obligations.ExpirySavesPlaybackState
  intro s ps hv hr harmed hcnt hre hps
  obtain ⟨b, hb⟩ := busAccess_total s.input s
  exact ⟨_, step_live hv hr hb, unitsCycle_of_expiry hb harmed hre hcnt hps⟩

/-- Settles O52: a REARM wins in the expiry cycle too, and the melody's rule does not set SEQ_START. -/
theorem rearmWinsOverExpiry : Obligations.RearmWinsOverExpiry := by
  unfold Obligations.RearmWinsOverExpiry
  intro s hv hr harmed hre
  have hb := busAccess_of_rearms hre harmed
  obtain ⟨hseq, hplay⟩ := unitsCycle_of_rearms hb harmed hre
  refine ⟨_, step_live hv hr hb, hseq, ?_, hplay⟩
  have hno : ¬ UnitSets s.input s .seqStart := fun ⟨_, _, hnot⟩ => absurd (hre.symm.trans hnot) (by decide)
  calc (unitsCycle s.input s s.reloadIdle).flag .seqStart
      = s.reloadIdle.flag .seqStart := Bool.eq_iff_iff.2 ((unitsCycle_flag ..).trans (or_iff_left hno))
    _ = s.flag .seqStart := rfl

/-- Settles O54: the rule of a melody note, for the sequencer, PLAYST and MV. -/
theorem melodyNoteLoadsMelodyVoice : Obligations.MelodyNoteLoadsMelodyVoice := by
  unfold Obligations.MelodyNoteLoadsMelodyVoice
  intro s n hv hr hf hidle hidx
  obtain ⟨b, hb⟩ := busAccess_total s.input s
  obtain ⟨hseq, hplay⟩ := unitsCycle_of_note hb hf hidle hidx
  exact ⟨_, step_live hv hr hb, hseq, hplay, unitsCycle_mv_of_note hv hb hf hidle hidx⟩

/-- Settles O55: the rule of the exit cycle. -/
theorem melodyExitRestoresPlayback : Obligations.MelodyExitRestoresPlayback := by
  unfold Obligations.MelodyExitRestoresPlayback
  intro s hv hr hf hidle hidx
  obtain ⟨b, hb⟩ := busAccess_total s.input s
  obtain ⟨hseq, hplay, hdone⟩ := unitsCycle_of_exit hb hf hidle hidx
  exact ⟨_, step_live hv hr hb, hplay, hseq, hdone⟩

/-! ### Two REARMs in a row (R100, 95_test_vectors.md S7)

The reload of the timer passes through the other units of the cycle, and a later REARM makes up for it. -/

theorem State.raiseIf_reloadIdle (t : State) (b : Bool) (c : Cond) :
    t.reloadIdle.raiseIf b c = (t.raiseIf b c).reloadIdle := by
  cases b <;> rfl

theorem rangerCycle_reloadIdle (i : CycleInput) (s t : State) :
    rangerCycle i s t.reloadIdle = (rangerCycle i s t).reloadIdle := by
  simp only [rangerCycle, ← State.raiseIf_reloadIdle]
  split <;> rfl

theorem samplerCycle_reloadIdle (i : CycleInput) (s t : State) :
    samplerCycle i s t.reloadIdle = (samplerCycle i s t).reloadIdle := by
  simp only [samplerCycle, ← State.raiseIf_reloadIdle]
  rfl

theorem voicesCycle_reloadIdle (s t : State) : voicesCycle s t.reloadIdle = (voicesCycle s t).reloadIdle := by
  simp only [voicesCycle, ← State.raiseIf_reloadIdle]
  cases s.fvSteps <;> cases s.mvSteps <;> rfl

/-- A cycle whose REARM is accepted leaves what the countdown cycle leaves, with the timer reloaded. -/
theorem unitsCycle_rearmed_eq_reloadIdle {i : CycleInput} {s : State} (harmed : s.seq.st = .armed)
    (hre : i.rearms = true) (hcnt : 1 < s.seq.idleCnt.toNat) :
    unitsCycle i s s.reloadIdle = (unitsCycle i.noAccess s s).reloadIdle := by
  have hno : rearmAccepted i.noAccess s = false :=
    rearmAccepted_of_no_cmd (cmdWord_of_writesNothing i.writesNothing_noAccess) s
  have hrearmed (t : State) : sequencerCycle true s t = t := by simp [sequencerCycle, harmed]
  have hcounts (t : State) : sequencerCycle false s t = t.countIdle := by simp [sequencerCycle, harmed, hcnt.not_ge]
  have hpins : samplerCycle i.noAccess s (rangerCycle i.noAccess s s) = samplerCycle i s (rangerCycle i s s) := rfl
  rw [unitsCycle, unitsCycle, rearmAccepted_of_armed i harmed, hre, hno, hrearmed, hcounts, hpins,
    rangerCycle_reloadIdle, samplerCycle_reloadIdle, voicesCycle_reloadIdle]
  rfl

/-- A cycle with a REARM reads nothing of IDLE_CNT. -/
theorem stepOn_reloadIdle {j : CycleInput} {t : State} (harmed : t.seq.st = .armed) (hre : j.rearms = true) :
    stepOn j t.reloadIdle = stepOn j t := by
  by_cases hv : t.cfg.Valid
  · cases hr : j.rst with
    | true => rw [stepOn_of_rst hv hr, stepOn_of_rst (s := t.reloadIdle) hv hr]; rfl
    | false =>
      have hrearmed (u v : State) (hu : u.seq.st = .armed) :
          sequencerCycle (rearmAccepted j u) u v = v := by
        simp [sequencerCycle, hu, rearmAccepted_of_armed, hre]
      have hunits (v : State) : unitsCycle j t.reloadIdle v = unitsCycle j t v := by
        rw [unitsCycle, unitsCycle, hrearmed _ _ harmed, hrearmed t.reloadIdle _ harmed]
        rfl
      rw [stepOn_of_busAccess hv hr (busAccess_of_rearms hre harmed),
        stepOn_of_busAccess (s := t.reloadIdle) hv hr (busAccess_of_rearms hre harmed), hunits]
      rfl
  · rw [stepOn_of_not_valid j hv, stepOn_of_not_valid (s := t.reloadIdle) j hv]

theorem not_rearms_noAccess (i : CycleInput) : i.noAccess.rearms = false := by
  simp [CycleInput.rearms, cmdWord_of_writesNothing i.writesNothing_noAccess]

/-- Before the expiry cycle a REARM leaves what no access leaves, with the timer reloaded. -/
theorem stepOn_rearmed {i : CycleInput} {s : State} (hv : s.cfg.Valid) (hr : i.live) (harmed : s.seq.st = .armed)
    (hre : i.rearms = true) (hcnt : 1 < s.seq.idleCnt.toNat) :
    ∃ t, stepOn i.noAccess s = .next t ∧ stepOn i s = .next t.reloadIdle ∧ t.seq.st = .armed := by
  refine ⟨_, stepOn_noAccess hv hr, ?_, ?_⟩
  · rw [stepOn_of_busAccess hv hr (busAccess_of_rearms hre harmed), unitsCycle_rearmed_eq_reloadIdle harmed hre hcnt]
    rfl
  · rw [unitsCycle_of_countdown (busAccess_of_writesNothing i.writesNothing_noAccess s) harmed (not_rearms_noAccess i) hcnt]
    exact harmed

/-- Settles O53: the second REARM does not see that the first one reloaded the timer. -/
theorem rearmIsIdempotent : Obligations.RearmIsIdempotent := by
  unfold Obligations.RearmIsIdempotent
  intro s i j hr hi hj harmed hcnt
  by_cases hv : s.cfg.Valid
  · obtain ⟨t, hcounted, hrearmed, hst⟩ := stepOn_rearmed hv hr harmed hi hcnt
    rw [runOn_cons_next hrearmed, runOn_cons_next hcounted, runOn, runOn, stepOn_reloadIdle hst hj]
  · simp only [runOn, stepOn_of_not_valid _ hv]

/-! ### The countdown to the melody (R101) -/

/-- A live ARMED cycle without a REARM counts down, and in the cycle with IDLE_CNT = 1 the melody starts. -/
theorem stepOn_countdown {i : CycleInput} {s : State} (hv : s.cfg.Valid) (hr : i.live) (harmed : s.seq.st = .armed)
    (hre : i.rearms = false) :
    ∃ t, stepOn i s = .next t ∧ t.cfg = s.cfg ∧
      (1 < s.seq.idleCnt.toNat → t.seq = { s.seq with idleCnt := s.seq.idleCnt - 1#32 }) ∧
      (s.seq.idleCnt.toNat = 1 → t.seq.st = .firing ∧ t.seq.idleCnt = 0#32 ∧ t.seq.melIdx = 0#4 ∧
        t.flag .seqStart = true) := by
  obtain ⟨b, hb⟩ := busAccess_total i s
  have ht := stepOn_of_busAccess hv hr hb
  refine ⟨_, ht, stepOn_keeps_cfg ht, unitsCycle_of_countdown hb harmed hre, fun hone => ?_⟩
  obtain ⟨hseq, -, hstart⟩ := unitsCycle_of_expiry hb harmed hre hone.le rfl
  refine ⟨?_, ?_, ?_, hstart⟩ <;> rw [hseq]

/-- The sequencer n cycles without a REARM after it was q with IDLE_CNT = c: still counting, or at the start of the melody. -/
def IdleAt (q : Sequencer) (n : Nat) (w : State) : Prop :=
  (n < q.idleCnt.toNat → w.seq = { q with idleCnt := BitVec.ofNat 32 (q.idleCnt.toNat - n) }) ∧
  (n = q.idleCnt.toNat →
    w.seq.st = .firing ∧ w.seq.idleCnt = 0#32 ∧ w.seq.melIdx = 0#4 ∧ w.flag .seqStart = true)

/-- Settles O50, by induction along the countdown. -/
theorem idleTimerExpiresOnTime : Obligations.IdleTimerExpiresOnTime := by
  unfold Obligations.IdleTimerExpiresOnTime
  intro s is hv harmed hpos hin hlen
  have hstart : IdleAt s.seq 0 s := ⟨fun _ => by simp, fun h => by omega⟩
  obtain ⟨t, ht, -, hidle⟩ := runOn_of_stepwise (N := s.seq.idleCnt.toNat) (n := 0)
    (I := fun n w => w.cfg = s.cfg ∧ IdleAt s.seq n w) ⟨rfl, hstart⟩ (eachCycle_true is s) hin (by omega)
    fun n w i hn ⟨hcfg, hw, _⟩ _ ⟨hr, hre⟩ => by
      have hseq := hw hn
      have hcnt : w.seq.idleCnt.toNat = s.seq.idleCnt.toNat - n := by rw [hseq, BitVec.toNat_ofNat]; omega
      have hst : w.seq.st = .armed := by rw [hseq]; exact harmed
      obtain ⟨t, ht, htcfg, hcounts, hexpires⟩ := stepOn_countdown (hcfg ▸ hv) hr hst hre
      refine ⟨t, ht, htcfg.trans hcfg, fun hlt => ?_, fun hend => hexpires (by omega)⟩
      have hdec : w.seq.idleCnt - 1#32 = BitVec.ofNat 32 (s.seq.idleCnt.toNat - (n + 1)) := by bv_omega
      rw [hcounts (by omega), hdec, hseq]
  rw [Nat.zero_add] at hidle
  exact ⟨t, ht, hidle⟩

/-! ### The way back to PLAYST (R105) -/

/-- Every step on given inputs that answers a next state: a reset, or the bus access followed by the units. -/
theorem stepOn_next_cases {i : CycleInput} {s t : State} (h : stepOn i s = .next t) :
    s.cfg.Valid ∧
    ((i.rst = true ∧ t = { resetCycle s with cycle := s.cycle + 1 }) ∨
      ∃ b, i.live ∧ busAccess i s = .next b ∧ t = { unitsCycle i s b with cycle := s.cycle + 1 }) := by
  by_cases hv : s.cfg.Valid
  · refine ⟨hv, ?_⟩
    cases hr : i.rst with
    | true => rw [stepOn_of_rst hv hr] at h; cases h; exact .inl ⟨rfl, rfl⟩
    | false =>
      obtain ⟨b, hb⟩ := busAccess_total i s
      rw [stepOn_of_busAccess hv hr hb] at h
      cases h
      exact .inr ⟨b, hr, hb, rfl⟩
  · rw [stepOn_of_not_valid i hv] at h; cases h

/-- SNAP_NOTE and SNAP_OCT as a PlaybackState. -/
def Sequencer.snapshot (q : Sequencer) : PlayState := ⟨q.snapNote, q.snapOct⟩

/-- A step from ARMED to FIRING is an expiry cycle: the snapshot is PLAYST with a PLAY of the cycle counted first (R102). -/
theorem stepOn_armed_to_firing {i : CycleInput} {s t : State} (h : stepOn i s = .next t) (harmed : s.seq.st = .armed)
    (hf : t.seq.st = .firing) : t.seq.snapshot = (acceptedPlay i s).getD s.play := by
  obtain ⟨-, ⟨-, rfl⟩ | ⟨b, -, hb, rfl⟩⟩ := stepOn_next_cases h
  · simp [State.resetOf] at hf
  · cases hre : i.rearms with
    | true =>
      obtain ⟨hseq, -⟩ := unitsCycle_of_rearms hb harmed hre
      simp [hseq, harmed] at hf
    | false =>
      by_cases hcnt : s.seq.idleCnt.toNat ≤ 1
      · obtain ⟨hseq, -⟩ := unitsCycle_of_expiry hb harmed hre hcnt rfl
        simp only [hseq, Sequencer.snapshot]
      · simp [unitsCycle_of_countdown hb harmed hre (not_le.1 hcnt), harmed] at hf

/-- A live FIRING cycle keeps the snapshot, and the one that returns to ARMED restores PLAYST from it (R103, R104). -/
theorem stepOn_of_firing {i : CycleInput} {s t : State} (h : stepOn i s = .next t) (hr : i.live)
    (hf : s.seq.st = .firing) :
    t.seq.snapshot = s.seq.snapshot ∧ (t.seq.st = .armed → t.play = s.seq.snapshot) := by
  obtain ⟨-, ⟨hrst, -⟩ | ⟨b, -, hb, rfl⟩⟩ := stepOn_next_cases h
  · exact absurd (hr.symm.trans hrst) (by decide)
  have hbseq := busAccess_seq_of_firing hb hf
  obtain ⟨hseq, hplay⟩ := unitsCycle_seq_play i s b
  simp only [hseq, hplay]
  obtain ⟨hst, -⟩ | ⟨hexp, -⟩ | ⟨hst, -⟩ | ⟨-, -, hrule⟩ | ⟨-, -, -, hrule⟩ | ⟨-, -, -, hrule⟩ | ⟨-, -, -, hrule⟩ :=
    sequencerCycle_cases (rearmAccepted i s) s b
  · rw [hf] at hst; cases hst
  · simp [State.idleExpires, hf] at hexp
  · rw [hf] at hst; cases hst
  all_goals simp [hrule, hbseq, hf, nextNote_eq, Sequencer.snapshot]

/-- A condition that each cycle of a run keeps holds after it. -/
theorem runOn_kept {I : State → Prop} {C : State → CycleInput → Prop} {is : List CycleInput} {s t : State} (h0 : I s)
    (hC : EachCycle C is s) (hstep : ∀ w i u, i ∈ is → I w → C w i → stepOn i w = .next u → I u)
    (hrun : runOn is s = .next t) : I t := by
  induction is generalizing s with
  | nil => cases hrun; exact h0
  | cons i is ih =>
    obtain ⟨u, hu, hrest⟩ := runOn_cons_eq_next hrun
    exact ih (hstep s i u (by simp) h0 hC.1 hu) (hC.2 u hu) (fun w j v hj => hstep w j v (by simp [hj])) hrest

/-- What holds after any number of a run's cycles holds where each of them starts. -/
theorem eachCycle_of_take {P : State → Prop} {is : List CycleInput} {s : State}
    (h : ∀ k w, k ≤ is.length → runOn (is.take k) s = .next w → P w) : EachCycle (fun w _ => P w) is s := by
  induction is generalizing s with
  | nil => trivial
  | cons i is ih =>
    refine ⟨h 0 s (Nat.zero_le _) rfl, fun t ht => ih fun k w hk hw => ?_⟩
    exact h (k + 1) w (by simpa using hk) (by rw [List.take_succ_cons, runOn_cons_next ht, hw])

/-- Settles O56: the expiry cycle takes the snapshot, each FIRING cycle keeps it, and the exit cycle restores it. -/
theorem melodyRoundTripRestoresPlayback : Obligations.MelodyRoundTripRestoresPlayback := by
  unfold Obligations.MelodyRoundTripRestoresPlayback
  intro s0 s u t i0 i is harmed hentry hf hlive hr hfiring hrun hexit hback
  have htaken := stepOn_armed_to_firing hentry harmed hf
  have hkept : u.seq.snapshot = s.seq.snapshot :=
    runOn_kept (I := fun w => w.seq.snapshot = s.seq.snapshot) rfl (eachCycle_of_take hfiring)
      (fun w j v hj hw hwf hv => (stepOn_of_firing hv (hlive j hj) hwf).1.trans hw) hrun
  have huf := hfiring is.length u le_rfl (by rw [List.take_length, hrun])
  have hrestored : t.play = s.seq.snapshot := ((stepOn_of_firing hexit hr huf).2 hback).trans hkept
  exact ⟨hrestored, hrestored.trans htaken⟩

/-! ### A melody note (R103, R107) -/

theorem runOn_keeps_cfg {is : List CycleInput} {s t : State} (h : runOn is s = .next t) : t.cfg = s.cfg :=
  runOn_kept (I := fun w => w.cfg = s.cfg) rfl (eachCycle_true is s)
    (fun _ _ _ _ hw _ hu => (stepOn_keeps_cfg hu).trans hw) h

/-- The voice VoiceLoad leaves has not stepped yet (R87). -/
theorem loadedVoice_fresh (p : Params) (n : Fin 8) (oct : OctCode) (div : VolLevel) (durMs : BitVec 16) :
    (loadedVoice p n oct div durMs).Fresh :=
  ⟨rfl, rfl, rfl, slotLength_pos p n oct⟩

theorem loadedVoice_playCycles (p : Params) (n : Fin 8) (oct : OctCode) (div : VolLevel) (durMs : BitVec 16) :
    (loadedVoice p n oct div durMs).playCycles = 100 * repsNat p n oct durMs * periodNat p n oct := by
  have hreps : (loadedVoice p n oct div durMs).reps.toNat = repsNat p n oct durMs :=
    (BitVec.toNat_ofNat ..).trans (Nat.mod_eq_of_lt (repsNat_lt ..))
  have hper : (loadedVoice p n oct div durMs).per.toNat = periodNat p n oct := slotLength_toNat p n oct
  rw [Voice.playCycles, hreps, hper]

/-- MV along a live run from FIRING: it plays for its 100 R P cycles, and the next cycle ends it. -/
theorem runOn_mv_note {is : List CycleInput} {s : State} (hv : s.cfg.Valid) (hfresh : s.mv.Fresh)
    (hf : s.seq.st = .firing) (hlive : ∀ i ∈ is, i.live) (hlen : is.length ≤ s.mv.playCycles + 1) :
    ∃ t, runOn is s = .next t ∧ t.seq = s.seq ∧ (t.mv.act = true ↔ is.length ≤ s.mv.playCycles) := by
  obtain hle | hend := Nat.le_or_eq_of_le_succ hlen
  · obtain ⟨t, ht, hseq, hat, -⟩ := runOn_mv_playing hv hfresh hf hlive hle
    exact ⟨t, ht, hseq, iff_of_true (hat.act.trans hfresh.act) hle⟩
  · obtain rfl | ⟨is, last, rfl⟩ := List.eq_nil_or_concat' is
    · cases hend
    have hlen' : is.length = s.mv.playCycles := by simpa using hend
    obtain ⟨u, hu, hseq, hat, -⟩ := runOn_mv_playing hv hfresh hf (fun i hi => hlive i (by simp [hi])) hlen'.le
    have hmv := (hlen' ▸ hat).eq_of_playCycles
    obtain ⟨t, ht, -, htmv, -, htseq⟩ := stepOn_mv_playing (runOn_keeps_cfg hu ▸ hv) (hlive last (by simp)) (hseq ▸ hf)
      (hat.act.trans hfresh.act)
    obtain ⟨hends, -⟩ := u.mv.stepsTo_step
    refine ⟨t, by rw [runOn_append hu, runOn_cons_next ht, runOn_nil], htseq.trans hseq, iff_of_false ?_ (by omega)⟩
    simp [htmv, hends (by rw [hmv]) (by rw [hmv])]

theorem one_le_melodyNoteCycles (p : Params) (d : VolLevel) (n : Fin 8) : 1 ≤ melodyNoteCycles p d n := by
  unfold melodyNoteCycles
  split <;> omega

/-- L_n of a note that sounds: its load cycle, the cycles MV plays, and the one that ends it. -/
theorem melodyNoteCycles_of_sounds {p : Params} {d : VolLevel} {n : Fin 8} (hd : d ≠ .mute)
    (hreps : 1 ≤ repsNat p n p.melOct p.melDurMs) :
    melodyNoteCycles p d n = 1 + ((loadedVoice p n p.melOct d p.melDurMs).playCycles + 1) := by
  rw [loadedVoice_playCycles, melodyNoteCycles, if_neg (by rintro (h | h); exacts [hd h, by omega])]

/-- A live FIRING cycle before note n with MV idle. -/
theorem stepOn_note {i : CycleInput} {s : State} {n : Fin 8} (hv : s.cfg.Valid) (hr : i.live) (hf : s.seq.st = .firing)
    (hidle : s.mv.act = false) (hidx : s.seq.melIdx = BitVec.ofNat 4 n.val) :
    ∃ t, stepOn i s = .next t ∧ t.seq = { s.seq with melIdx := BitVec.ofNat 4 (n.val + 1) } ∧
      t.mv = if s.adc.vlevel ≠ .mute ∧ 1 ≤ repsNat s.cfg n s.cfg.melOct s.cfg.melDurMs then
          loadedVoice s.cfg n s.cfg.melOct s.adc.vlevel s.cfg.melDurMs
        else s.mv := by
  obtain ⟨b, hb⟩ := busAccess_total i s
  obtain ⟨hseq, -⟩ := unitsCycle_of_note hb hf hidle hidx
  exact ⟨_, stepOn_of_busAccess hv hr hb, hseq, unitsCycle_mv_of_note hv hb hf hidle hidx⟩

/-- A melody note, sounding or not, takes L_n cycles: MEL_IDX advances in the first, and MV plays until the last. -/
theorem runOn_note {is : List CycleInput} {s : State} {n : Fin 8} (hv : s.cfg.Valid) (hf : s.seq.st = .firing)
    (hidle : s.mv.act = false) (hidx : s.seq.melIdx = BitVec.ofNat 4 n.val) (hlive : ∀ i ∈ is, i.live)
    (hpos : 1 ≤ is.length) (hlen : is.length ≤ melodyNoteCycles s.cfg s.adc.vlevel n) :
    ∃ t, runOn is s = .next t ∧ t.seq = { s.seq with melIdx := BitVec.ofNat 4 (n.val + 1) } ∧
      (t.mv.act = true ↔ is.length < melodyNoteCycles s.cfg s.adc.vlevel n) := by
  cases is with
  | nil => cases hpos
  | cons i is =>
    obtain ⟨u, hu, hseq, hmv⟩ := stepOn_note hv (hlive i (by simp)) hf hidle hidx
    rw [List.length_cons] at hlen ⊢
    by_cases hsounds : s.adc.vlevel ≠ .mute ∧ 1 ≤ repsNat s.cfg n s.cfg.melOct s.cfg.melDurMs
    · rw [if_pos hsounds] at hmv
      have hcycles := melodyNoteCycles_of_sounds hsounds.1 hsounds.2
      rw [← hmv] at hcycles
      obtain ⟨t, ht, htseq, hact⟩ := runOn_mv_note (is := is) (stepOn_keeps_cfg hu ▸ hv) (hmv ▸ loadedVoice_fresh ..)
        (by rw [hseq]; exact hf) (fun j hj => hlive j (by simp [hj])) (by omega)
      exact ⟨t, by rw [runOn_cons_next hu, ht], htseq.trans hseq, hact.trans (by omega)⟩
    · rw [if_neg hsounds] at hmv
      have hcycles : melodyNoteCycles s.cfg s.adc.vlevel n = 1 := by
        rw [not_and_or, not_not, not_le, Nat.lt_one_iff] at hsounds
        exact if_pos hsounds
      obtain rfl : is = [] := List.length_eq_zero_iff.1 (by omega)
      exact ⟨u, by rw [runOn_cons_next hu, runOn_nil], hseq, by simp [hmv, hidle, hcycles]⟩

/-- Settles O58: the run of a melody note, here one that sounds. -/
theorem melodyNoteTakesItsCycles : Obligations.MelodyNoteTakesItsCycles := by
  unfold Obligations.MelodyNoteTakesItsCycles
  intro s is n hv hf hidle hidx _ _ hlive hpos hlen
  exact runOn_note hv hf hidle hidx hlive hpos hlen

/-! ### The whole melody (R107) -/

/-- The sum of L_n to L_7. -/
def melodyCyclesFrom (p : Params) (d : VolLevel) (n : Nat) : Nat :=
  (((List.finRange 8).drop n).map (melodyNoteCycles p d)).sum

theorem melodyCyclesFrom_zero (p : Params) (d : VolLevel) : melodyCyclesFrom p d 0 = melodyCycles p d := rfl

theorem melodyCyclesFrom_eight (p : Params) (d : VolLevel) : melodyCyclesFrom p d 8 = 0 := rfl

theorem melodyCyclesFrom_of_lt (p : Params) (d : VolLevel) (n : Fin 8) :
    melodyCyclesFrom p d n.val = melodyNoteCycles p d n + melodyCyclesFrom p d (n.val + 1) := by
  rw [melodyCyclesFrom, List.drop_eq_getElem_cons (by simp), List.map_cons, List.sum_cons, List.getElem_finRange]
  rfl

/-- The melody is about to play note n, or to end if n = 8, at the constant volume level d. -/
structure BeforeNote (p : Params) (d : VolLevel) (ps : PlayState) (n : Nat) (s : State) : Prop where
  cfg : s.cfg = p
  firing : s.seq.st = .firing
  idle : s.mv.act = false
  idx : s.seq.melIdx = BitVec.ofNat 4 n
  pend : s.adc.pend = false
  vlevel : s.adc.vlevel = d
  snapshot : s.seq.snapshot = ps

/-- Without ADC strobes the volume level is constant (R95, R96). -/
theorem runOn_keeps_vlevel {is : List CycleInput} {s t : State} (hin : ∀ i ∈ is, i.live ∧ i.adcDone = false)
    (hpend : s.adc.pend = false) (h : runOn is s = .next t) : t.adc.pend = false ∧ t.adc.vlevel = s.adc.vlevel := by
  refine runOn_kept (I := fun w => w.adc.pend = false ∧ w.adc.vlevel = s.adc.vlevel) ⟨hpend, rfl⟩ (eachCycle_true is s)
    (fun w i u hi hw _ hu => ?_) h
  obtain ⟨hr, hstrobe⟩ := hin i hi
  obtain ⟨hwpend, hwlevel⟩ := hw
  obtain ⟨hv, -⟩ := stepOn_next_cases hu
  obtain ⟨u', hu', hadc, -⟩ := stepOn_adc hv hr
  rw [hu] at hu'
  cases hu'
  rw [hadc, VolSampler.tick_pend]
  exact ⟨hstrobe, (VolSampler.tick_of_not_pend hwpend ..).2.trans hwlevel⟩

/-- After the L_n cycles of note n the melody is before note n + 1. -/
theorem BeforeNote.next {p : Params} {d : VolLevel} {ps : PlayState} {n : Fin 8} {s : State} {is : List CycleInput}
    (hv : p.Valid) (h : BeforeNote p d ps n.val s) (hin : ∀ i ∈ is, i.live ∧ i.adcDone = false)
    (hlen : is.length = melodyNoteCycles p d n) :
    ∃ t, runOn is s = .next t ∧ BeforeNote p d ps (n.val + 1) t := by
  obtain ⟨rfl, hf, hidle, hidx, hpend, rfl, rfl⟩ := h
  obtain ⟨t, ht, hseq, hact⟩ := runOn_note hv hf hidle hidx (fun i hi => (hin i hi).1)
    (hlen ▸ one_le_melodyNoteCycles ..) hlen.le
  obtain ⟨htpend, htlevel⟩ := runOn_keeps_vlevel hin hpend ht
  refine ⟨t, ht, runOn_keeps_cfg ht, ?_, ?_, ?_, htpend, htlevel, ?_⟩
  · rw [hseq]; exact hf
  · simpa [hlen] using hact
  · rw [hseq]
  · rw [hseq]; rfl

/-- The exit cycle. -/
theorem BeforeNote.exit {p : Params} {d : VolLevel} {ps : PlayState} {s : State} {i : CycleInput} (hv : p.Valid)
    (h : BeforeNote p d ps 8 s) (hr : i.live) :
    ∃ t, stepOn i s = .next t ∧ t.seq.st = .armed ∧ t.play = ps := by
  obtain ⟨rfl, hf, hidle, hidx, -, -, rfl⟩ := h
  obtain ⟨b, hb⟩ := busAccess_total i s
  obtain ⟨hseq, hplay, -⟩ := unitsCycle_of_exit hb hf hidle hidx
  exact ⟨_, stepOn_of_busAccess hv hr hb, congrArg Sequencer.st hseq, hplay⟩

/-- During the L_n cycles of note n the sequencer is FIRING. -/
theorem BeforeNote.during {p : Params} {d : VolLevel} {ps : PlayState} {n : Fin 8} {s : State} {is : List CycleInput}
    (hv : p.Valid) (h : BeforeNote p d ps n.val s) (hlive : ∀ i ∈ is, i.live) (hlen : is.length ≤ melodyNoteCycles p d n) :
    ∃ t, runOn is s = .next t ∧ t.seq.st = .firing := by
  obtain ⟨rfl, hf, hidle, hidx, -, rfl, -⟩ := h
  obtain rfl | hne := eq_or_ne is []
  · exact ⟨s, rfl, hf⟩
  · obtain ⟨t, ht, hseq, -⟩ := runOn_note hv hf hidle hidx hlive (List.length_pos_iff.2 hne) hlen
    exact ⟨t, ht, by rw [hseq]; exact hf⟩

/-- From before note n, the last k notes to come: the melody is FIRING for the sum of their L, and the exit cycle follows. -/
theorem runOn_melody {p : Params} {d : VolLevel} {ps : PlayState} {k n : Nat} {s : State} {is : List CycleInput}
    (hv : p.Valid) (hk : n + k = 8) (h : BeforeNote p d ps n s) (hin : ∀ i ∈ is, i.live ∧ i.adcDone = false)
    (hlen : is.length ≤ melodyCyclesFrom p d n + 1) :
    ∃ t, runOn is s = .next t ∧ (is.length ≤ melodyCyclesFrom p d n → t.seq.st = .firing) ∧
      (is.length = melodyCyclesFrom p d n + 1 → t.seq.st = .armed ∧ t.play = ps) := by
  induction k generalizing n s is with
  | zero =>
    obtain rfl : n = 8 := hk
    rw [melodyCyclesFrom_eight] at hlen ⊢
    cases is with
    | nil => exact ⟨s, rfl, fun _ => h.firing, fun hend => by simp at hend⟩
    | cons i is =>
      obtain rfl : is = [] := by simpa using hlen
      obtain ⟨t, ht, hdone⟩ := h.exit hv (hin i (by simp)).1
      exact ⟨t, runOn_cons_next ht, fun hend => by simp at hend, fun _ => hdone⟩
  | succ k ih =>
    obtain ⟨m, rfl⟩ : ∃ m : Fin 8, n = m.val := ⟨⟨n, by omega⟩, rfl⟩
    rw [melodyCyclesFrom_of_lt] at hlen ⊢
    obtain hle | hgt := Nat.le_total is.length (melodyNoteCycles p d m)
    · obtain ⟨t, ht, hf⟩ := h.during hv (fun i hi => (hin i hi).1) hle
      exact ⟨t, ht, fun _ => hf, fun hend => by omega⟩
    · obtain ⟨u, hu, hnext⟩ := h.next hv (fun i hi => hin i (List.mem_of_mem_take hi)) (List.length_take_of_le hgt)
      have hrest : (is.drop (melodyNoteCycles p d m)).length = is.length - melodyNoteCycles p d m := List.length_drop
      obtain ⟨t, ht, hf, hend⟩ := ih (is := is.drop (melodyNoteCycles p d m)) (by omega) hnext
        (fun i hi => hin i (List.mem_of_mem_drop hi)) (by omega)
      have hrun : runOn is s = .next t := by
        rw [← List.take_append_drop (melodyNoteCycles p d m) is, runOn_append hu, ht]
      exact ⟨t, hrun, fun _ => hf (by omega), fun _ => hend (by omega)⟩

/-- The sums of R107 at the reference parameters (95_test_vectors.md section 2.6). -/
theorem melodyCycles_reference :
    melodyCycles Params.reference .loud = 63761616 ∧ melodyCycles Params.reference .soft = 63761616 ∧
      melodyCycles Params.reference .mute = 8 := by
  decide

/-- Settles O59: the melody from before its note 0, at the level the volume has then. -/
theorem melodyLength : Obligations.MelodyLength := by
  unfold Obligations.MelodyLength
  refine ⟨fun s is hv hf hidle hidx hpend hin hlen => ?_, melodyCycles_reference⟩
  have hstart : BeforeNote s.cfg s.adc.vlevel s.seq.snapshot 0 s := ⟨rfl, hf, hidle, hidx, hpend, rfl, rfl⟩
  rw [← melodyCyclesFrom_zero] at hlen ⊢
  exact runOn_melody (k := 8) hv rfl hstart hin hlen

end Sys2Proof.Machine
end

/-! PROOFS. Control: NOP and the reserved words, the totality of the step, a run on a script against a run on listed inputs,
the octave select, and the statements on them. -/

section
namespace Sys2Proof.Machine

/-! ### NOP and the reserved words (R108, R109) -/

theorem exec_nop (s : State) : exec .nop s = .next s := rfl

/-- Settles O5: the arm of NOP answers the state it is given. -/
theorem nopChangesNothing : Obligations.NopChangesNothing := by
  unfold Obligations.NopChangesNothing
  exact exec_nop

theorem exec_reserved4to7 (opLow : BitVec 2) (other : BitVec 28) (s : State) :
    exec (.reserved4to7 opLow other) s = .next (illegalWord s) := rfl

theorem exec_reserved8toF (opLow : BitVec 3) (other : BitVec 28) (s : State) :
    exec (.reserved8toF opLow other) s = .next (illegalWord s) := rfl

/-- ERR_CMD is STATUS bit 10, bit 6 of the sticky bits (R17, R40). -/
theorem errCmd_mask : Cond.errCmd.mask = 0x040#9 := by decide

theorem illegalWord_eq (s : State) : illegalWord s = { s with sticky := s.sticky ||| 0x040#9 } := by
  rw [illegalWord, State.raise, errCmd_mask]

/-- Settles O6: both rows answer what an illegal word does, whatever their other bits. -/
theorem reservedWordsSetErrCmd : Obligations.ReservedWordsSetErrCmd := by
  unfold Obligations.ReservedWordsSetErrCmd
  intro s a b r
  rw [exec_reserved4to7, exec_reserved8toF, illegalWord_eq]
  exact ⟨rfl, rfl⟩

/-! ### A cycle with NOP (R108) -/

/-- A cycle whose access leaves the state alone and is no REARM, which the sequencer would see, is one with no bus access:
the cycle may be a reset, and the parameters out of range. -/
theorem stepOn_of_access_idle {i : CycleInput} {s : State} (hacc : busAccess i s = .next s)
    (hrearm : rearmAccepted i s = false) : stepOn i s = stepOn i.noAccess s := by
  by_cases hv : s.cfg.Valid
  · cases hr : i.rst with
    | true => rw [stepOn_of_rst hv hr, stepOn_of_rst (i := i.noAccess) hv hr]
    | false =>
      have hquiet : rearmAccepted i.noAccess s = false :=
        rearmAccepted_of_no_cmd (cmdWord_of_writesNothing i.writesNothing_noAccess) s
      have hunits : unitsCycle i s s = unitsCycle i.noAccess s s := unitsCycle_congr s rfl (hrearm.trans hquiet.symm)
      rw [stepOn_of_busAccess hv hr hacc, stepOn_noAccess hv hr, hunits]
  · rw [stepOn_of_not_valid i hv, stepOn_of_not_valid i.noAccess hv]

/-- Only a word that decodes to REARM is an accepted REARM (R100). -/
theorem rearmAccepted_of_decode_ne {i : CycleInput} {v : Word} {j : Instr} (hcmd : cmdWord i = some v)
    (hdec : decode v = .ok j) (hj : j ≠ .rearm) (s : State) : rearmAccepted i s = false := by
  simp only [rearmAccepted, hcmd, hdec]
  split
  next heq => exact absurd (Except.ok.inj heq) hj
  next => rfl

/-- Settles O15: the word of NOP decodes to NOP, which leaves the state alone and is no REARM. -/
theorem nopCycleIsNoAccessCycle : Obligations.NopCycleIsNoAccessCycle := by
  unfold Obligations.NopCycleIsNoAccessCycle
  intro s i hcmd
  have hdec : decode 0x00000000#32 = .ok .nop := (decode_eq_nop_iff _).2 rfl
  refine stepOn_of_access_idle ?_ (rearmAccepted_of_decode_ne hcmd hdec (by decide) s)
  rw [busAccess_of_cmdWord hcmd, cmdWrite_of_decode hdec, exec_nop]

/-! ### The totality of the step (R8, R113) -/

theorem step_of_not_valid {s : State} (hv : ¬ s.cfg.Valid) : step s = .refused .parametersOutOfRange :=
  if_neg hv

/-- With parameters in range a reset has a next state, and so has the bus access of every other cycle. -/
theorem step_total {s : State} (hv : s.cfg.Valid) : ∃ t, step s = .next t := by
  cases hr : s.input.rst with
  | true => exact ⟨_, step_reset hv hr⟩
  | false =>
    obtain ⟨b, hb⟩ := busAccess_total s.input s
    exact ⟨_, step_live hv hr hb⟩

/-- Settles O14: the step is total on the parameters in range, and refused on the others. -/
theorem stepIsTotalOnValidParameters : Obligations.StepIsTotalOnValidParameters := by
  unfold Obligations.StepIsTotalOnValidParameters
  exact fun s => ⟨step_total, step_of_not_valid⟩

/-! ### A run on a script (R111, R113)

A step on given inputs reads nothing of the script behind them, so that inputs put before the script wait there until their
cycle comes. -/

/-- s with the inputs listed before its script, the first of them for the coming cycle. -/
def State.withInputs (s : State) (is : List CycleInput) : State := { s with script := is ++ s.script }

theorem State.withInputs_nil (s : State) : s.withInputs [] = s := rfl

theorem State.withInputs_cons (s : State) (i : CycleInput) (is : List CycleInput) :
    s.withInputs (i :: is) = (s.withInputs is).withInput i := rfl

/-- A step on given inputs keeps an entry before the script. -/
theorem stepOn_withInput (i k : CycleInput) (s : State) :
    stepOn i (s.withInput k) = mapNext (State.withInput · k) (stepOn i s) := by
  by_cases hv : s.cfg.Valid
  · cases hr : i.rst with
    | true => rw [stepOn_of_rst hv hr, stepOn_of_rst (s := s.withInput k) hv hr]; rfl
    | false =>
      obtain ⟨b, hb⟩ := busAccess_total i s
      rw [stepOn_of_busAccess hv hr hb, stepOn_of_busAccess (s := s.withInput k) hv hr (busAccess_withInput k hb),
        unitsCycle_of_withInput, unitsCycle_withInput]
      rfl
  · rw [stepOn_of_not_valid i hv, stepOn_of_not_valid (s := s.withInput k) i hv]; rfl

theorem mapNext_mapNext (f g : State → State) (r : Result) : mapNext g (mapNext f r) = mapNext (g ∘ f) r := by
  cases r <;> rfl

theorem mapNext_id (r : Result) : mapNext id r = r := by
  cases r <;> rfl

/-- A step on given inputs keeps every entry before the script. -/
theorem stepOn_withInputs (i : CycleInput) (is : List CycleInput) (s : State) :
    stepOn i (s.withInputs is) = mapNext (State.withInputs · is) (stepOn i s) := by
  induction is with
  | nil => exact (mapNext_id _).symm
  | cons k is ih =>
    rw [State.withInputs_cons, stepOn_withInput, ih, mapNext_mapNext]
    rfl

theorem run_succ_of_next {M : Host.Core} {n : Nat} {s t : M.State} (h : M.step s = .next t) :
    M.run (n + 1) s = M.run n t := by
  rw [Host.Core.run, h]

theorem run_succ_of_refused {M : Host.Core} {n : Nat} {s : M.State} {r : M.Refusal} (h : M.step s = .refused r) :
    M.run (n + 1) s = .refused r := by
  rw [Host.Core.run, h]

/-- The host's run through inputs put before the script is the run on them. -/
theorem run_withInputs (is : List CycleInput) (s : State) :
    Host.Core.run Sys2Proof.core is.length (s.withInputs is) = runOn is s := by
  induction is generalizing s with
  | nil => rfl
  | cons i is ih =>
    have hstep : Sys2Proof.core.step (s.withInputs (i :: is)) = mapNext (State.withInputs · is) (stepOn i s) :=
      stepOn_withInputs i is s
    cases hon : stepOn i s with
    | next t =>
      rw [hon] at hstep
      rw [runOn_cons_next hon]
      exact (run_succ_of_next hstep).trans (ih t)
    | fault r => cases r
    | refused r =>
      rw [hon] at hstep
      rw [runOn, hon]
      exact run_succ_of_refused hstep

/-- Settles O24: the script of the statement is the inputs listed before the state's own. -/
theorem runOfScriptIsRunOnInputs : Obligations.RunOfScriptIsRunOnInputs := by
  unfold Obligations.RunOfScriptIsRunOnInputs
  exact run_withInputs

/-! ### The octave select (R110) -/

theorem octaveDecode_eq_one_iff (btn1 btn2 : Bool) : octaveDecode btn1 btn2 = 1#2 ↔ btn1 = true ∧ btn2 = false := by
  cases btn1 <;> cases btn2 <;> decide

theorem octaveDecode_eq_two_iff (btn1 btn2 : Bool) : octaveDecode btn1 btn2 = 2#2 ↔ btn1 = false ∧ btn2 = true := by
  cases btn1 <;> cases btn2 <;> decide

/-- No button and both buttons are INACTIVE. -/
theorem octaveDecode_eq_inactive_iff (btn1 btn2 : Bool) : octaveDecode btn1 btn2 = 0#2 ↔ btn1 = btn2 := by
  cases btn1 <;> cases btn2 <;> decide

theorem State.led1_iff (s : State) : s.outputs.led1 = true ↔ s.oct.sel = 1#2 := decide_eq_true_iff

theorem State.led2_iff (s : State) : s.outputs.led2 = true ↔ s.oct.sel = 2#2 := decide_eq_true_iff

/-- A live step leaves the decode of its buttons and their levels, whatever else the cycle does. -/
theorem step_oct {s : State} (hv : s.cfg.Valid) (hr : s.input.rst = false) :
    ∃ t, step s = .next t ∧
      t.oct = { sel := octaveDecode s.input.btn1 s.input.btn2, btn1Q := s.input.btn1, btn2Q := s.input.btn2 } := by
  obtain ⟨b, hb⟩ := busAccess_total s.input s
  exact ⟨_, step_live hv hr hb, unitsCycle_oct s.input s b⟩

/-- Settles O60: the octave select after a live step, its decode case by case, and the two indicators. -/
theorem octaveFollowsButtons : Obligations.OctaveFollowsButtons := by
  unfold Obligations.OctaveFollowsButtons
  intro s hv hr
  obtain ⟨t, ht, hoct⟩ := step_oct hv hr
  refine ⟨t, ht, ?_, ?_, ?_, ?_, ?_, t.led1_iff, t.led2_iff⟩ <;> rw [hoct]
  · exact octaveDecode_eq_one_iff ..
  · exact octaveDecode_eq_two_iff ..
  · exact octaveDecode_eq_inactive_iff ..

end Sys2Proof.Machine
end

/-! PROOFS. Exceptions: the one error a command raises and the order of the errors, a refused command's cycle against a cycle
with no access, the interrupt line, and the statements on them. -/

section
namespace Sys2Proof.Machine

/-! ### The command of a legal word, by its OP (R57, R58) -/

theorem decode_of_op_nop {v : Word} (hlegal : ¬ IllegalWord v) (hop : v.toNat % 16 = 0) : decode v = .ok .nop :=
  (decode_eq_nop_iff v).2 (by bv_omega)

theorem decode_of_op_measure {v : Word} (hlegal : ¬ IllegalWord v) (hop : v.toNat % 16 = 1) : decode v = .ok .measure :=
  (decode_eq_measure_iff v).2 (by bv_omega)

theorem decode_of_op_rearm {v : Word} (hlegal : ¬ IllegalWord v) (hop : v.toNat % 16 = 3) : decode v = .ok .rearm :=
  (decode_eq_rearm_iff v).2 (by bv_omega)

/-- A legal word with the OP of PLAY is a PLAY whose operands pass the check of the command itself. -/
theorem decode_of_op_play {v : Word} (hlegal : ¬ IllegalWord v) (hop : v.toNat % 16 = 2) :
    ∃ note oct durMs, decode v = .ok (.play note oct durMs) ∧ playLegal note oct = true := by
  obtain h | h | h | h := decode_of_not_illegalWord hlegal
  · rw [(decode_eq_nop_iff v).1 h] at hop; exact absurd hop (by decide)
  · rw [(decode_eq_measure_iff v).1 h] at hop; exact absurd hop (by decide)
  · rw [(decode_eq_rearm_iff v).1 h] at hop; exact absurd hop (by decide)
  · exact ⟨_, _, _, h, ((decode_eq_play_iff_toNat ..).1 h).1⟩

/-! ### The error of a CMD write (R122) -/

theorem cmdWrite_total (s : State) (v : Word) : ∃ t, cmdWrite s v = .next t := by
  cases hdec : decode v with
  | error e => exact ⟨illegalWord s, by rw [cmdWrite, hdec]⟩
  | ok j => rw [cmdWrite_of_decode hdec]; exact exec_total j s

/-- While FIRING a legal PLAY or REARM raises ERR_LOCK, whether or not FV plays (R119, R122). -/
theorem cmdWrite_of_locked {s : State} {v : Word} (hlegal : ¬ IllegalWord v) (hop : v.toNat % 16 = 2 ∨ v.toNat % 16 = 3)
    (hf : s.seq.st = .firing) : cmdWrite s v = .next (s.raise .errLock) := by
  obtain hplay | hrearm := hop
  · obtain ⟨note, oct, durMs, hdec, hcodes⟩ := decode_of_op_play hlegal hplay
    rw [cmdWrite_of_decode hdec, exec_play_of_firing hcodes hf]
  · rw [cmdWrite_of_decode (decode_of_op_rearm hlegal hrearm), exec_rearm_of_firing hf]

/-- While ARMED with FV playing a legal PLAY raises ERR_BUSY (R118). -/
theorem cmdWrite_of_play_busy {s : State} {v : Word} (hlegal : ¬ IllegalWord v) (hop : v.toNat % 16 = 2)
    (harmed : s.seq.st = .armed) (hact : s.fv.act = true) : cmdWrite s v = .next (s.raise .errBusy) := by
  obtain ⟨note, oct, durMs, hdec, hcodes⟩ := decode_of_op_play hlegal hop
  rw [cmdWrite_of_decode hdec, exec_play_of_busy hcodes harmed hact]

/-- While a measurement runs a legal MEASURE raises ERR_BUSY (R63, R118). -/
theorem cmdWrite_of_measure_busy {s : State} {v : Word} (hlegal : ¬ IllegalWord v) (hop : v.toNat % 16 = 1)
    (hbusy : s.rng.st ≠ .idle) : cmdWrite s v = .next (s.raise .errBusy) := by
  rw [cmdWrite_of_decode (decode_of_op_measure hlegal hop), exec_measure_of_busy hbusy]

/-- The state t has the three command error bits of s. -/
abbrev State.SameErrors (s t : State) : Prop :=
  t.flag .errCmd = s.flag .errCmd ∧ t.flag .errBusy = s.flag .errBusy ∧ t.flag .errLock = s.flag .errLock

theorem State.sameErrors_of_sticky_eq {s t : State} (h : t.sticky = s.sticky) : s.SameErrors t :=
  ⟨flag_of_sticky_eq h _, flag_of_sticky_eq h _, flag_of_sticky_eq h _⟩

/-- SYN_DONE is no error: raising it leaves the errors alone. -/
theorem State.sameErrors_of_synDone {s t : State} (h : t.sticky = s.sticky ||| Cond.synDone.mask) : s.SameErrors t := by
  have hkept (c : Cond) (hc : c ≠ .synDone) : t.flag c = s.flag c :=
    Bool.eq_iff_iff.2 ((flag_of_sticky_or_mask h c).trans (or_iff_left hc))
  exact ⟨hkept _ (by decide), hkept _ (by decide), hkept _ (by decide)⟩

/-- An accepted PLAY raises SYN_DONE for a no-op note, else nothing (R82, R83). -/
theorem exec_play_accepted_sameErrors {note : NoteCode} {oct : OctCode} {durMs : BitVec 16} {s t : State}
    (hcodes : playLegal note oct = true) (harmed : s.seq.st = .armed) (hidle : s.fv.act = false)
    (ht : exec (.play note oct durMs) s = .next t) : s.SameErrors t := by
  cases hvoice : noteVoice s.cfg note oct s.adc.vlevel durMs with
  | none =>
    rw [exec_play_of_noVoice hcodes harmed hidle hvoice] at ht
    cases ht
    exact State.sameErrors_of_synDone rfl
  | some w =>
    rw [exec_play_of_voice hcodes harmed hidle hvoice] at ht
    cases ht
    exact State.sameErrors_of_sticky_eq rfl

/-- The words and states for which R122 leaves no error to raise. -/
abbrev CommandAccepted (s : State) (v : Word) : Prop :=
  v.toNat % 16 = 0 ∨ (v.toNat % 16 = 1 ∧ s.rng.st = .idle) ∨ (v.toNat % 16 = 3 ∧ s.seq.st = .armed) ∨
    (v.toNat % 16 = 2 ∧ s.seq.st = .armed ∧ s.fv.act = false)

theorem cmdWrite_accepted_sameErrors {s t : State} {v : Word} (hlegal : ¬ IllegalWord v) (hacc : CommandAccepted s v)
    (ht : cmdWrite s v = .next t) : s.SameErrors t := by
  obtain hop | ⟨hop, hidle⟩ | ⟨hop, harmed⟩ | ⟨hop, harmed, hidle⟩ := hacc
  · rw [cmdWrite_of_decode (decode_of_op_nop hlegal hop), exec_nop] at ht
    cases ht
    exact State.sameErrors_of_sticky_eq rfl
  · rw [cmdWrite_of_decode (decode_of_op_measure hlegal hop), exec_measure_of_idle hidle] at ht
    cases ht
    exact State.sameErrors_of_sticky_eq rfl
  · rw [cmdWrite_of_decode (decode_of_op_rearm hlegal hop), exec_rearm_of_armed harmed] at ht
    cases ht
    exact State.sameErrors_of_sticky_eq rfl
  · obtain ⟨note, oct, durMs, hdec, hcodes⟩ := decode_of_op_play hlegal hop
    rw [cmdWrite_of_decode hdec] at ht
    exact exec_play_accepted_sameErrors hcodes harmed hidle ht

/-- Settles O12: the write has one next state, and in each case of R122 it is known. -/
theorem commandRaisesAtMostOneError : Obligations.CommandRaisesAtMostOneError := by
  unfold Obligations.CommandRaisesAtMostOneError
  intro s v
  obtain ⟨t, ht⟩ := cmdWrite_total s v
  have hnext {u : State} (hu : cmdWrite s v = .next u) : t = u := Host.Outcome.next.inj (ht.symm.trans hu)
  exact ⟨t, ht, fun hill => hnext (cmdWrite_of_illegalWord hill s),
    fun hlegal hop hf => hnext (cmdWrite_of_locked hlegal hop hf),
    fun hlegal hop harmed hact => hnext (cmdWrite_of_play_busy hlegal hop harmed hact),
    fun hlegal hop hbusy => hnext (cmdWrite_of_measure_busy hlegal hop hbusy),
    fun hlegal hacc => cmdWrite_accepted_sameErrors hlegal hacc ht⟩

/-! ### The cycle of a refused command (R117 to R119, R123) -/

theorem armed_of_not_firing {q : Sequencer} (h : q.st ≠ .firing) : q.st = .armed := by
  cases hst : q.st with
  | armed => rfl
  | firing => exact absurd hst h

/-- A command that raises an error, not SYN_DONE, does nothing else. -/
theorem exec_of_refused {i : CycleInput} {v : Word} {j : Instr} {s : State} {c : Cond} (hcmd : cmdWord i = some v)
    (hdec : decode v = .ok j) (hraise : commandRaises i s = some c) (hc : c ≠ .synDone) :
    exec j s = .next (s.raise c) := by
  cases j with simp only [commandRaises, hcmd, hdec] at hraise
  | nop => cases hraise
  | reserved4to7 opLow other => cases hraise; exact exec_reserved4to7 opLow other s
  | reserved8toF opLow other => cases hraise; exact exec_reserved8toF opLow other s
  | measure =>
    by_cases hidle : s.rng.st = .idle
    · rw [if_pos hidle] at hraise; cases hraise
    · rw [if_neg hidle] at hraise; cases hraise
      exact exec_measure_of_busy hidle
  | rearm =>
    by_cases hf : s.seq.st = .firing
    · rw [if_pos hf] at hraise; cases hraise
      exact exec_rearm_of_firing hf
    · rw [if_neg hf] at hraise; cases hraise
  | play note oct durMs =>
    obtain ⟨hcodes, -⟩ := (decode_eq_play_iff_toNat ..).1 hdec
    by_cases hf : s.seq.st = .firing
    · rw [if_pos hf] at hraise; cases hraise
      exact exec_play_of_firing hcodes hf durMs
    rw [if_neg hf] at hraise
    by_cases hact : s.fv.act = true
    · rw [if_pos hact] at hraise; cases hraise
      exact exec_play_of_busy hcodes (armed_of_not_firing hf) hact durMs
    rw [if_neg hact] at hraise
    by_cases hnoop : PlayIsNoOp s note oct durMs
    · rw [if_pos hnoop] at hraise; cases hraise
      exact absurd rfl hc
    · rw [if_neg hnoop] at hraise; cases hraise

/-- The bus access of a refused command sets its error bit and changes nothing else. -/
theorem busAccess_of_refused {i : CycleInput} {s : State} {c : Cond} (hraise : commandRaises i s = some c)
    (hc : c ≠ .synDone) : busAccess i s = .next (s.raise c) := by
  cases hcmd : cmdWord i with
  | none => simp only [commandRaises, hcmd] at hraise; cases hraise
  | some v =>
    rw [busAccess_of_cmdWord hcmd]
    cases hdec : decode v with
    | ok j => rw [cmdWrite_of_decode hdec, exec_of_refused hcmd hdec hraise hc]
    | error e =>
      simp only [commandRaises, hcmd, hdec, Option.some.injEq] at hraise
      rw [cmdWrite, hdec, ← hraise]
      rfl

/-- An accepted REARM raises nothing, so a command that raises is none: the countdown goes on (R101). -/
theorem rearmAccepted_of_raises {i : CycleInput} {s : State} {c : Cond} (hraise : commandRaises i s = some c) :
    rearmAccepted i s = false := by
  cases hst : s.seq.st with
  | firing => exact rearmAccepted_of_firing i hst
  | armed =>
    rw [rearmAccepted_of_armed i hst, Bool.eq_false_iff]
    intro hre
    have hcmd : cmdWord i = some 0x00000003#32 := of_decide_eq_true hre
    simp [commandRaises, hcmd, (decode_eq_rearm_iff _).2, hst] at hraise

theorem State.raise_right_comm (t : State) (c d : Cond) : (t.raise d).raise c = (t.raise c).raise d := by
  simp only [State.raise, BitVec.or_assoc, BitVec.or_comm c.mask]

theorem State.raiseIf_raise (t : State) (b : Bool) (c d : Cond) : (t.raise d).raiseIf b c = (t.raiseIf b c).raise d := by
  cases b
  · rfl
  · exact t.raise_right_comm c d

theorem rangerCycle_raise (i : CycleInput) (s t : State) (d : Cond) :
    rangerCycle i s (t.raise d) = (rangerCycle i s t).raise d := by
  simp only [rangerCycle, ← State.raiseIf_raise]
  split <;> rfl

theorem samplerCycle_raise (i : CycleInput) (s t : State) (d : Cond) :
    samplerCycle i s (t.raise d) = (samplerCycle i s t).raise d := by
  simp only [samplerCycle, ← State.raiseIf_raise]
  rfl

theorem voicesCycle_raise (s t : State) (d : Cond) : voicesCycle s (t.raise d) = (voicesCycle s t).raise d := by
  simp only [voicesCycle, ← State.raiseIf_raise]
  cases s.fvSteps <;> cases s.mvSteps <;> rfl

theorem State.melodyEntry_raise (t : State) (d : Cond) : (t.raise d).melodyEntry = t.melodyEntry.raise d := by
  rw [melodyEntry, melodyEntry, raise_right_comm]
  rfl

theorem State.melodyExit_raise (t : State) (d : Cond) : (t.raise d).melodyExit = t.melodyExit.raise d := by
  rw [melodyExit, melodyExit, raise_right_comm]
  rfl

theorem sequencerCycle_raise (r : Bool) (s t : State) (d : Cond) :
    sequencerCycle r s (t.raise d) = (sequencerCycle r s t).raise d := by
  simp only [sequencerCycle, nextNote_eq, State.melodyEntry_raise, State.melodyExit_raise]
  repeat' split
  all_goals rfl

/-- The units read none of the sticky bits, and they only set bits: a bit set before them passes through (R112). -/
theorem unitsCycle_raise (i : CycleInput) (s t : State) (d : Cond) :
    unitsCycle i s (t.raise d) = (unitsCycle i s t).raise d := by
  simp only [unitsCycle, rangerCycle_raise, samplerCycle_raise, voicesCycle_raise, sequencerCycle_raise]
  rfl

/-- A live cycle whose access only raises c, and is no REARM the sequencer would see, is one with no access but for c. -/
theorem stepOn_of_access_raises {i : CycleInput} {s : State} {c : Cond} (hv : s.cfg.Valid) (hr : i.live)
    (hacc : busAccess i s = .next (s.raise c)) (hrearm : rearmAccepted i s = false) :
    ∃ u, stepOn i.noAccess s = .next u ∧ stepOn i s = .next (u.raise c) := by
  have hquiet : rearmAccepted i.noAccess s = false :=
    rearmAccepted_of_no_cmd (cmdWord_of_writesNothing i.writesNothing_noAccess) s
  have hunits : unitsCycle i s s = unitsCycle i.noAccess s s := unitsCycle_congr s rfl (hrearm.trans hquiet.symm)
  refine ⟨_, stepOn_noAccess hv hr, ?_⟩
  rw [stepOn_of_busAccess hv hr hacc, unitsCycle_raise, hunits]
  rfl

/-- Settles O18: the access of a refused command only raises its error, and the units go on as without it. -/
theorem refusedCommandOnlySetsItsBit : Obligations.RefusedCommandOnlySetsItsBit := by
  unfold Obligations.RefusedCommandOnlySetsItsBit
  intro s i c hv hr hraise herr
  have hc : c ≠ .synDone := by obtain rfl | rfl | rfl := herr <;> decide
  exact stepOn_of_access_raises hv hr (busAccess_of_refused hraise hc) (rearmAccepted_of_raises hraise)

/-! ### The interrupt line (R126) -/

/-- A word is not 0 when one of its bits is 1. -/
theorem bitVec_ne_zero_iff {n : Nat} (x : BitVec n) : x ≠ 0#n ↔ ∃ k < n, x.getLsbD k = true := by
  rw [ne_eq, BitVec.eq_of_getLsbD_eq_iff]
  simp

/-- The line in terms of the nine sticky bits and their enables. -/
theorem State.irq_iff (s : State) :
    s.irq = true ↔ ∃ k < 9, s.sticky.getLsbD k = true ∧ s.irqEn.getLsbD k = true := by
  rw [State.irq, decide_eq_true_iff, bitVec_ne_zero_iff]
  simp only [BitVec.getLsbD_and, Bool.and_eq_true]

/-- The sticky bits stand in STATUS from bit 4 on (R17, R40). -/
theorem State.statusWord_getLsbD_sticky (s : State) {k : Nat} (hk : k < 9) :
    s.statusWord.getLsbD (k + 4) = s.sticky.getLsbD k := by
  rw [s.statusWord_getLsbD (by omega), if_neg (by omega), if_neg (by omega), if_neg (by omega), if_pos (by omega),
    Nat.add_sub_cancel]

/-- The enables stand in IRQ_EN from bit 4 on (R18, R42). -/
theorem State.irqEnWord_getLsbD (s : State) {k : Nat} (hk : k < 9) :
    s.irqEnWord.getLsbD (k + 4) = s.irqEn.getLsbD k := by
  have hword : k + 4 < 32 ∧ k < 32 := by omega
  simp [State.irqEnWord, hword]

theorem State.statusWord_getLsbD_pos (s : State) (c : Cond) : s.statusWord.getLsbD c.pos = s.flag c := by
  have hpos : c.pos - 4 < 9 ∧ c.pos - 4 + 4 = c.pos := by cases c <;> decide
  rw [State.flag, ← s.statusWord_getLsbD_sticky hpos.1, hpos.2]

/-- Settles O32: both registers show their nine bits from bit 4 on. -/
theorem irqIsEnabledSticky : Obligations.IrqIsEnabledSticky := by
  unfold Obligations.IrqIsEnabledSticky
  intro s
  refine ⟨s.irq_iff.trans ⟨?_, ?_⟩, ?_⟩
  · rintro ⟨k, hk, hsticky, henabled⟩
    exact ⟨k + 4, by omega, by omega, (s.statusWord_getLsbD_sticky hk).trans hsticky,
      (s.irqEnWord_getLsbD hk).trans henabled⟩
  · rintro ⟨k, hlo, hhi, hstatus, henabled⟩
    obtain ⟨m, rfl⟩ := Nat.exists_eq_add_of_le' hlo
    have hm : m < 9 := by omega
    exact ⟨m, hm, (s.statusWord_getLsbD_sticky hm).symm.trans hstatus, (s.irqEnWord_getLsbD hm).symm.trans henabled⟩
  · have hbit := s.statusWord_getLsbD_pos
    exact ⟨hbit .rngDone, hbit .rngTmo, hbit .synDone, hbit .seqStart, hbit .seqDone, hbit .volUpd, hbit .errCmd,
      hbit .errBusy, hbit .errLock⟩

end Sys2Proof.Machine
end

/-! PROOFS. Reset and hazards: what a reset cycle leaves and what shows after it, reset held over several cycles, the
measurement that no timeout bounds, and the statements on them. -/

section
namespace Sys2Proof.Machine

/-! ### The reset state (R135, R136) -/

/-- Settles O21: the reset state is in range at every valid parameter set, the reference set among them. -/
theorem resetMeetsInvariant : Obligations.ResetMeetsInvariant := by
  unfold Obligations.ResetMeetsInvariant
  exact ⟨fun _ => resetOf_inv, resetOf_inv reference_valid⟩

/-- A read in a reset cycle gives 0 (R135). -/
theorem busRdata_of_rst {i : CycleInput} (hr : i.rst = true) (hwe : i.busWe = false) (s : State) :
    busRdata i s = 0#32 := by
  simp [busRdata, hr, hwe]

/-- Settles O25: the step is the reset of the state, field by field. -/
theorem resetCycleLeavesResetState : Obligations.ResetCycleLeavesResetState := by
  unfold Obligations.ResetCycleLeavesResetState
  intro s hv hr
  exact ⟨fun _ hwe => busRdata_of_rst hr hwe s, _, step_reset hv hr, rfl, rfl, rfl, rfl, rfl, rfl, rfl, rfl, rfl, rfl,
    rfl, rfl, rfl, rfl⟩

/-- No interrupt is pending while no sticky bit is set (R126). -/
theorem State.irq_of_sticky_eq_zero {s : State} (h : s.sticky = 0#9) : s.irq = false := by
  rw [State.irq, h, BitVec.zero_and]
  rfl

/-- STATUS is 0 with no sticky bit set and no unit busy (R31, R40). -/
theorem State.statusWord_eq_zero {s : State} (hsticky : s.sticky = 0#9) (hrng : s.rng.st = .idle)
    (hfv : s.fv.act = false) (hseq : s.seq.st = .armed) : s.statusWord = 0#32 := by
  simp [State.statusWord, State.rngBusy, State.synBusy, State.seqFiring, hsticky, hrng, hfv, hseq]

/-- MNOTE reads as the note of DIST (R23, R47). -/
theorem memRead_mnote (s : State) : memRead s 0x18#8 = (noteFor s.cfg s.rng.dist).setWidth 32 := rfl

/-- Settles O27: the units are idle in the reset state, and its DIST lies below every band that starts above 0. -/
theorem outputsAfterReset : Obligations.OutputsAfterReset := by
  unfold Obligations.OutputsAfterReset
  intro s t hr h
  obtain ⟨-, ⟨-, rfl⟩ | ⟨b, hlive, -⟩⟩ := step_next_cases h
  · refine ⟨rfl, rfl, rfl, rfl, rfl, State.irq_of_sticky_eq_zero rfl, State.statusWord_eq_zero rfl rfl rfl rfl,
      fun hmin => ?_⟩
    have hsilent : noteFor s.cfg 0#32 = silence := noteFor_of_lt_bandMin hmin
    have hread : memRead (resetCycle s).endCycle 0x18#8 = (noteFor s.cfg 0#32).setWidth 32 := memRead_mnote _
    rw [hread, hsilent]
    rfl
  · exact absurd (hlive.symm.trans hr) (by decide)

/-! ### Reset held over several cycles (R137) -/

/-- A reset of the reset state changes nothing, whatever the cycle count. -/
theorem resetCycle_resetCycle (s : State) (n : Nat) :
    resetCycle { resetCycle s with cycle := n } = { resetCycle s with cycle := n } := rfl

theorem runOn_of_rst {i : CycleInput} {is : List CycleInput} {s : State} (hv : s.cfg.Valid)
    (hin : ∀ j ∈ i :: is, j.rst = true) :
    runOn (i :: is) s = .next { resetCycle s with cycle := s.cycle + (i :: is).length } := by
  induction is generalizing i s with
  | nil => exact runOn_cons_next (stepOn_of_rst hv (hin i (by simp)))
  | cons j js ih =>
    obtain ⟨hi, hrest⟩ := List.forall_mem_cons.1 hin
    have hlen : s.cycle + 1 + (j :: js).length = s.cycle + (i :: j :: js).length := by
      rw [List.length_cons (a := i), Nat.add_right_comm, Nat.add_assoc]
    rw [runOn_cons_next (stepOn_of_rst hv hi), ih (s := { resetCycle s with cycle := s.cycle + 1 }) hv hrest,
      resetCycle_resetCycle, hlen]

/-- Settles O26: after the first reset cycle only the cycle count goes on. -/
theorem holdingResetIsOneReset : Obligations.HoldingResetIsOneReset := by
  unfold Obligations.HoldingResetIsOneReset
  intro s is hv hne hin
  obtain ⟨i, is, rfl⟩ := List.exists_cons_of_ne_nil hne
  exact runOn_of_rst hv hin

/-! ### A measurement that nothing ends (R72, R147) -/

/-- The Ranger keeps its state as long as the echo keeps the level e: WAIT_RISE at 0, WAIT_STALE and COUNT at 1. -/
def Ranger.HeldBy (e : Bool) (r : Ranger) : Prop :=
  (e = false ∧ r.st = .waitRise) ∨ (e = true ∧ (r.st = .waitStale ∨ r.st = .count))

theorem Ranger.HeldBy.measuring {e : Bool} {r : Ranger} (h : r.HeldBy e) : r.Measuring := by
  obtain ⟨-, h⟩ | ⟨-, h | h⟩ := h
  · exact .inr (.inl h)
  · exact .inl h
  · exact .inr (.inr h)

/-- The level that holds COUNT is the one that ends no pulse (R70). -/
theorem Ranger.HeldBy.high_of_count {e : Bool} {r : Ranger} (h : r.HeldBy e) (hst : r.st = .count) : e = true := by
  obtain ⟨-, h⟩ | ⟨he, -⟩ := h
  · rw [hst] at h; cases h
  · exact he

theorem Ranger.HeldBy.advance_st {e : Bool} {r : Ranger} (h : r.HeldBy e) : (r.advance e).st = r.st := by
  obtain ⟨rfl, h⟩ | ⟨rfl, h | h⟩ := h <;> simp [advance, h]

/-- With no timeout, a live cycle at the level that holds the Ranger leaves it in its state (R68 to R70, R72). -/
theorem stepOn_of_heldBy {i : CycleInput} {s : State} (hv : s.cfg.Valid) (hr : i.live) (hen : s.rng.tmoEn = false)
    (hheld : s.rng.HeldBy i.echo) :
    ∃ t, stepOn i s = .next t ∧ t.cfg = s.cfg ∧ t.rng.tmoEn = false ∧ t.rng.st = s.rng.st := by
  have hout : s.rng.timesOut i.echo = false := by simp [Ranger.timesOut, Ranger.timing_of_disabled hen]
  obtain ⟨t, ht, hmoves, -⟩ := stepOn_of_not_timesOut hv hr hheld.measuring.ne_idle hout
  have hrng : t.rng = (s.rng.advance i.echo).elapse 1 := by
    rw [hmoves.rng_eq, Ranger.tick_of_measuring hheld.measuring hheld.high_of_count hout]
  refine ⟨t, ht, hmoves.cfg_eq, ?_, ?_⟩
  · rw [hrng, Ranger.elapse_tmoEn, Ranger.advance_tmoEn, hen]
  · rw [hrng, Ranger.elapse_st, hheld.advance_st]

theorem runOn_of_heldBy {e : Bool} {is : List CycleInput} {s : State} (hv : s.cfg.Valid) (hen : s.rng.tmoEn = false)
    (hheld : s.rng.HeldBy e) (hin : ∀ i ∈ is, i.live ∧ i.echo = e) :
    ∃ t, runOn is s = .next t ∧ t.cfg = s.cfg ∧ t.rng.tmoEn = false ∧ t.rng.st = s.rng.st := by
  refine runOn_of_stepwise (N := is.length) (n := 0)
    (I := fun _ w => w.cfg = s.cfg ∧ w.rng.tmoEn = false ∧ w.rng.st = s.rng.st)
    ⟨rfl, hen, rfl⟩ (eachCycle_true is s) hin (by omega) fun _ w i _ ⟨hcfg, hwen, hst⟩ _ ⟨hr, hecho⟩ => ?_
  have hwheld : w.rng.HeldBy i.echo := by rw [Ranger.HeldBy, hst, hecho]; exact hheld
  obtain ⟨t, ht, htcfg, hten, htst⟩ := stepOn_of_heldBy (hcfg ▸ hv) hr hwen hwheld
  exact ⟨t, ht, htcfg.trans hcfg, hten, htst.trans hst⟩

/-- The condition a live cycle's command raises is set after the cycle (R41, R121). -/
theorem flag_of_commandRaises {i : CycleInput} {s t : State} {c : Cond} (h : stepOn i s = .next t) (hr : i.live)
    (hraise : commandRaises i s = some c) : t.flag c = true := by
  obtain ⟨-, ⟨hrst, -⟩ | ⟨b, -, hb, rfl⟩⟩ := stepOn_next_cases h
  · exact absurd (hr.symm.trans hrst) (by decide)
  · exact (unitsCycle_flag i s b c).2 (.inl ((busAccess_flag hb c).2 (.inl hraise)))

/-- A MEASURE during a measurement raises ERR_BUSY (R63, R118). -/
theorem commandRaises_of_measure_busy {i : CycleInput} {s : State} (hcmd : cmdWord i = some 0x00000001#32)
    (hbusy : s.rng.st ≠ .idle) : commandRaises i s = some .errBusy := by
  have hdec : decode 0x00000001#32 = .ok .measure := (decode_eq_measure_iff _).2 rfl
  simp only [commandRaises, hcmd, hdec, if_neg hbusy]

/-- RNG_BUSY, bit 0 of STATUS (R31, R40). -/
theorem State.statusWord_getLsbD_zero (s : State) : s.statusWord.getLsbD 0 = decide (s.rng.st ≠ .idle) :=
  s.statusWord_getLsbD (by decide)

/-- Settles O38: along the run the Ranger is held in its state, and a MEASURE does not free it. -/
theorem unboundedWaitNeverEnds : Obligations.UnboundedWaitNeverEnds := by
  unfold Obligations.UnboundedWaitNeverEnds
  intro s is m e hv hen hheld hin hmr hme hcmd
  obtain ⟨t, ht, hcfg, hten, hst⟩ := runOn_of_heldBy hv hen hheld hin
  have htheld : t.rng.HeldBy m.echo := by rw [Ranger.HeldBy, hst, hme]; exact hheld
  have hbusy : t.rng.st ≠ .idle := htheld.measuring.ne_idle
  obtain ⟨u, hu, -, -, hust⟩ := stepOn_of_heldBy (hcfg ▸ hv) hmr hten htheld
  have hstatus : t.statusWord.getLsbD 0 = true := by rw [t.statusWord_getLsbD_zero, decide_eq_true hbusy]
  exact ⟨t, u, ht, hstatus, hst, hu, flag_of_commandRaises hu hmr (commandRaises_of_measure_busy hcmd hbusy),
    hust.trans hst⟩

end Sys2Proof.Machine
end

/-! PROOFS. The words of the spec beside their commands, and the independence of the Ranger and the audio units: two states
that agree on the one go on agreeing on it, whatever they hold of the other. -/

section
namespace Sys2Proof

/-! ### Words that decode and words that do not (R56 to R60) -/

/-- The word of a well-formed instruction decodes to it. -/
theorem decode_of_eq_encode {v : Word} {i : Instr} (hwf : i.wellFormed = true) (hv : v = encode i) : decode v = .ok i :=
  (decode_eq_ok_iff_encode v i).2 ⟨hwf, hv⟩

/-- R58: NOP, MEASURE or REARM with a bit set above OP is rejected. -/
theorem decode_of_upperField_ne_zero {v : Word} (hop : opField v = 0#4 ∨ opField v = 1#4 ∨ opField v = 3#4)
    (hupper : upperField v ≠ 0#28) : decode v = .error (.reservedFieldNotZero (opField v)) := by
  obtain h | h | h := hop <;> simp [decode, decodeBare, h, hupper]

/-- R58: PLAY with a note code above SILENCE is rejected. -/
theorem decode_of_reserved_note {v : Word} (hop : opField v = 2#4) (hfield : playReservedField v = 0#6)
    (hnote : 8 < (noteField v).toNat) : decode v = .error (.reservedNote (noteField v)) := by
  have hcode : noteCodeOk (noteField v) = false := decide_eq_false hnote.not_ge
  simp [decode, decodePlay, hop, hfield, hcode]

/-- Settles O4: ten words are encodings, and two break a check of R58. -/
theorem specWordsDecode : Obligations.SpecWordsDecode := by
  unfold Obligations.SpecWordsDecode
  refine ⟨?nop, ?measure, ?rearm, ?playC, ?playHighC, ?silence, ?playA, ?silenceLong, ?reserved4, ?reservedF, ?bare, ?note⟩
  case bare => exact decode_of_upperField_ne_zero (.inr (.inl (by decide))) (by decide)
  case note => exact decode_of_reserved_note (by decide) (by decide) (by decide)
  all_goals exact decode_of_eq_encode (by decide) (by decide)

end Sys2Proof

namespace Sys2Proof.Machine

/-! ### The Ranger does not read the audio units (R63 to R72) -/

/-- s and t agree on the Ranger and on what it reads: the parameters and TMO. -/
structure State.SameRanger (s t : State) : Prop where
  cfg : s.cfg = t.cfg
  tmo : s.tmo = t.tmo
  rng : s.rng = t.rng

theorem busAccess_sameRanger {i : CycleInput} {s t b c : State} (h : s.SameRanger t) (hb : busAccess i s = .next b)
    (hc : busAccess i t = .next c) : b.SameRanger c where
  cfg := by
    obtain ⟨hbcfg, -⟩ := busAccess_frame hb
    obtain ⟨hccfg, -⟩ := busAccess_frame hc
    rw [hbcfg, hccfg, h.cfg]
  tmo := by
    by_cases hw : i.Writes 3#6
    · rw [busAccess_of_writes_tmo hw] at hb hc
      cases hb
      cases hc
      rfl
    · rw [busAccess_tmo hb hw, busAccess_tmo hc hw, h.tmo]
  rng := by
    by_cases hcmd : cmdWord i = some 0x00000001#32
    · by_cases hidle : s.rng.st = .idle
      · rw [busAccess_rng_of_measure hb hcmd hidle, busAccess_rng_of_measure hc hcmd (h.rng ▸ hidle), h.rng, h.cfg]
      · rw [busAccess_rng hb hidle, busAccess_rng hc (h.rng ▸ hidle), h.rng]
    · rw [busAccess_rng_of_not_measure hb hcmd, busAccess_rng_of_not_measure hc hcmd, h.rng]

theorem unitsCycle_sameRanger {i : CycleInput} {s t b c : State} (h : s.SameRanger t) (hbc : b.SameRanger c) :
    (unitsCycle i s b).SameRanger (unitsCycle i t c) where
  cfg := by rw [unitsCycle_cfg, unitsCycle_cfg, hbc.cfg]
  tmo := by rw [unitsCycle_tmo, unitsCycle_tmo, hbc.tmo]
  rng := by rw [unitsCycle_rng, unitsCycle_rng, hbc.rng, h.rng, h.cfg, h.tmo]

/-! ### The audio units do not read the Ranger (R81 to R104) -/

/-- s and t agree on the audio units and on what these read: the parameters, the voices, the audio output, the
IdleSequencer, PLAYST and the VolumeSampler. -/
structure State.SameAudio (s t : State) : Prop where
  cfg : s.cfg = t.cfg
  fv : s.fv = t.fv
  mv : s.mv = t.mv
  dac : s.dac = t.dac
  seq : s.seq = t.seq
  play : s.play = t.play
  adc : s.adc = t.adc

theorem State.SameAudio.rearmAccepted_eq {s t : State} (h : s.SameAudio t) (i : CycleInput) :
    rearmAccepted i s = rearmAccepted i t := by
  simp only [rearmAccepted, h.seq]

theorem State.SameAudio.acceptedPlay_eq {s t : State} (h : s.SameAudio t) (i : CycleInput) :
    acceptedPlay i s = acceptedPlay i t := by
  simp only [acceptedPlay, h.seq, h.fv]

theorem State.SameAudio.playSounds_iff {s t : State} (h : s.SameAudio t) (i : CycleInput) (n : Fin 8) (oct : OctCode)
    (durMs : BitVec 16) : PlaySounds i s n oct durMs ↔ PlaySounds i t n oct durMs := by
  simp only [PlaySounds, h.cfg, h.adc]

/-- FV after the bus access: a PLAY that sounds loads it if FV is idle while ARMED, and nothing else changes it (R81, R87). -/
theorem busAccess_sameAudio_fv {i : CycleInput} {s t b c : State} (h : s.SameAudio t) (hb : busAccess i s = .next b)
    (hc : busAccess i t = .next c) : b.fv = c.fv := by
  by_cases hlocked : s.fv.act = true ∨ s.seq.st = .firing
  · rw [busAccess_fv hb hlocked, busAccess_fv hc (by rwa [← h.fv, ← h.seq]), h.fv]
  · obtain ⟨hact, hst⟩ := not_or.1 hlocked
    have hidle : s.fv.act = false := eq_false_of_ne_true hact
    have harmed : s.seq.st = .armed := armed_of_not_firing hst
    by_cases hplay : ∃ n oct durMs, PlaySounds i s n oct durMs
    · obtain ⟨n, oct, durMs, hsounds⟩ := hplay
      rw [busAccess_fv_of_playSounds hb harmed hidle hsounds,
        busAccess_fv_of_playSounds hc (h.seq ▸ harmed) (h.fv ▸ hidle) ((h.playSounds_iff ..).1 hsounds), h.cfg, h.adc]
    · rw [busAccess_fv_of_not_playSounds hb fun n oct durMs hs => hplay ⟨n, oct, durMs, hs⟩,
        busAccess_fv_of_not_playSounds hc fun n oct durMs ht => hplay ⟨n, oct, durMs, (h.playSounds_iff ..).2 ht⟩, h.fv]

theorem busAccess_sameAudio {i : CycleInput} {s t b c : State} (h : s.SameAudio t) (hb : busAccess i s = .next b)
    (hc : busAccess i t = .next c) : b.SameAudio c := by
  obtain ⟨hbcfg, -, -, hbadc, hbmv, hbdac, -⟩ := busAccess_frame hb
  obtain ⟨hccfg, -, -, hcadc, hcmv, hcdac, -⟩ := busAccess_frame hc
  exact {
    cfg := by rw [hbcfg, hccfg, h.cfg]
    fv := busAccess_sameAudio_fv h hb hc
    mv := by rw [hbmv, hcmv, h.mv]
    dac := by rw [hbdac, hcdac, h.dac]
    seq := by rw [busAccess_seq hb, busAccess_seq hc, h.rearmAccepted_eq, h.seq, h.cfg]
    play := by rw [busAccess_play hb, busAccess_play hc, h.acceptedPlay_eq, h.play]
    adc := by rw [hbadc, hcadc, h.adc] }

theorem State.SameAudio.fvSteps_eq {s t : State} (h : s.SameAudio t) : s.fvSteps = t.fvSteps := by
  rw [State.fvSteps, State.fvSteps, h.fv, h.seq]

theorem State.SameAudio.nextDac_eq {s t : State} (h : s.SameAudio t) : s.nextDac = t.nextDac := by
  rw [State.nextDac, State.nextDac, State.mvSteps, State.mvSteps, h.fvSteps_eq, h.cfg, h.fv, h.mv, h.dac]

theorem State.SameAudio.melodyVoice_eq {s t : State} (h : s.SameAudio t) : s.melodyVoice = t.melodyVoice := by
  rw [State.melodyVoice, State.melodyVoice, h.cfg, h.seq, h.adc]

/-- Of the state at the start of the cycle the sequencer's part reads itself, MV and the note it would load alone. -/
theorem State.SameAudio.sequencerCycle_eq {s t : State} (h : s.SameAudio t) (r : Bool) (u : State) :
    sequencerCycle r s u = sequencerCycle r t u := by
  simp only [sequencerCycle, nextNote_eq, h.seq, h.mv, h.melodyVoice_eq]

theorem unitsCycle_sameAudio {i : CycleInput} {s t b c : State} (h : s.SameAudio t) (hbc : b.SameAudio c) :
    (unitsCycle i s b).SameAudio (unitsCycle i t c) := by
  obtain ⟨hseqs, hplays⟩ := unitsCycle_seq_play i s b
  obtain ⟨hseqt, hplayt⟩ := unitsCycle_seq_play i t c
  obtain ⟨hseq, hplay⟩ := sequencerCycle_congr (r := rearmAccepted i t) (s := t) hbc.cfg hbc.seq hbc.play
  exact {
    cfg := by rw [unitsCycle_cfg, unitsCycle_cfg, hbc.cfg]
    fv := by rw [unitsCycle_fv, unitsCycle_fv, h.fvSteps_eq, h.fv, hbc.fv]
    mv := by rw [unitsCycle_mv, unitsCycle_mv, h.mv, h.seq, h.melodyVoice_eq, hbc.mv]
    dac := by rw [unitsCycle_dac, unitsCycle_dac, h.nextDac_eq]
    seq := by rw [hseqs, hseqt, h.rearmAccepted_eq, h.sequencerCycle_eq, hseq]
    play := by rw [hplays, hplayt, h.rearmAccepted_eq, h.sequencerCycle_eq, hplay]
    adc := by rw [unitsCycle_adc, unitsCycle_adc, h.adc, h.cfg] }

/-! ### Two steps on the same inputs -/

/-- Two steps on the same inputs are both resets, or both a bus access followed by the units. -/
theorem stepOn_next_cases_both {i : CycleInput} {s t s' t' : State} (hs : stepOn i s = .next s')
    (ht : stepOn i t = .next t') :
    (s' = { resetCycle s with cycle := s.cycle + 1 } ∧ t' = { resetCycle t with cycle := t.cycle + 1 }) ∨
    ∃ b c, busAccess i s = .next b ∧ busAccess i t = .next c ∧
      s' = { unitsCycle i s b with cycle := s.cycle + 1 } ∧ t' = { unitsCycle i t c with cycle := t.cycle + 1 } := by
  obtain ⟨-, ⟨hrst, hs'⟩ | ⟨b, hlive, hb, hs'⟩⟩ := stepOn_next_cases hs <;>
    obtain ⟨-, ⟨hrst', ht'⟩ | ⟨c, hlive', hc, ht'⟩⟩ := stepOn_next_cases ht
  · exact .inl ⟨hs', ht'⟩
  · exact absurd (hlive'.symm.trans hrst) (by decide)
  · exact absurd (hlive.symm.trans hrst') (by decide)
  · exact .inr ⟨b, c, hb, hc, hs', ht'⟩

theorem stepOn_sameRanger {i : CycleInput} {s t s' t' : State} (h : s.SameRanger t) (hs : stepOn i s = .next s')
    (ht : stepOn i t = .next t') : s'.SameRanger t' := by
  obtain ⟨rfl, rfl⟩ | ⟨b, c, hb, hc, rfl, rfl⟩ := stepOn_next_cases_both hs ht
  · exact ⟨h.cfg, rfl, rfl⟩
  · obtain ⟨hcfg, htmo, hrng⟩ := unitsCycle_sameRanger (i := i) h (busAccess_sameRanger h hb hc)
    exact ⟨hcfg, htmo, hrng⟩

theorem stepOn_sameAudio {i : CycleInput} {s t s' t' : State} (h : s.SameAudio t) (hs : stepOn i s = .next s')
    (ht : stepOn i t = .next t') : s'.SameAudio t' := by
  obtain ⟨rfl, rfl⟩ | ⟨b, c, hb, hc, rfl, rfl⟩ := stepOn_next_cases_both hs ht
  · exact ⟨h.cfg, rfl, rfl, congrArg (fun p => (State.resetOf p).dac) h.cfg,
      congrArg (fun p => (State.resetOf p).seq) h.cfg, rfl, rfl⟩
  · obtain ⟨hcfg, hfv, hmv, hdac, hseq, hplay, hadc⟩ := unitsCycle_sameAudio (i := i) h (busAccess_sameAudio h hb hc)
    exact ⟨hcfg, hfv, hmv, hdac, hseq, hplay, hadc⟩

/-- Settles O40: each agreement is kept by the step. -/
theorem rangerAndAudioAreIndependent : Obligations.RangerAndAudioAreIndependent := by
  unfold Obligations.RangerAndAudioAreIndependent
  intro s t s' t' i hcfg hs ht
  refine ⟨fun htmo hrng => ?_, fun hfv hmv hdac hseq hplay hadc => ?_⟩
  · obtain ⟨-, htmo', hrng'⟩ := stepOn_sameRanger ⟨hcfg, htmo, hrng⟩ hs ht
    exact ⟨hrng', htmo'⟩
  · obtain ⟨-, hfv', hmv', hdac', hseq', hplay', hadc'⟩ :=
      stepOn_sameAudio ⟨hcfg, hfv, hmv, hdac, hseq, hplay, hadc⟩ hs ht
    exact ⟨hfv', hmv', hdac', hseq', hplay', hadc'⟩

end Sys2Proof.Machine
end
